-- ==== Sys2Proof/Word.lean ====
section
/-! DEFINITION. The word type of OVP-TX: the byte (spec/00_scope.md R16). The machine has no wider
machine word: its operands and results are byte strings (spec/20_memory.md R50). -/

namespace Sys2Proof

/-- A byte is 8 bits, a value 0 to 255 (R16). -/
abbrev Byte := BitVec 8

/-- `zeros(n)` of R102: `n` bytes of 0x00. -/
def zeros (n : Nat) : List Byte := List.replicate n 0

end Sys2Proof
end

