-- ==== Sys2Proof/Config.lean ====
section
/-! DEFINITION. The configuration of spec/00_scope.md R14, fixed at construction, the constants the
spec gives, the oracle answers of R13, and the free values: what HOST supplies at construction and what
the two oracles answer when nothing outside the model says so. A free value is an opaque constant with no
body, so that nothing can be proved of the value it has (notes/assumptions/1.md, 2.md). -/

namespace Sys2Proof

/-- The protocol variant, "selected at construction" (R4). -/
inductive Variant where
  /-- 8-byte header. -/
  | legacy
  /-- 14-byte header. -/
  | current
deriving DecidableEq, Repr, Inhabited

/-- R14's type "positive integer": a natural number other than 0. -/
abbrev PositiveInt : Type := { n : Nat // 0 < n }

/-- The positive integer after `n`. -/
def PositiveInt.next (n : Nat) : PositiveInt := ⟨n + 1, n.succ_pos⟩

/-- The configuration surface of R14, each parameter at the type and range the rule gives it. No operation writes a field of it. -/
structure Config where
  /-- `VARIANT`. -/
  variant : Variant
  /-- `SYNC_WORD`, two bytes, the first one in the high byte (R53, R84). -/
  syncWord : BitVec 16
  /-- `LEGACY_MAGIC`, two bytes, independent of `SYNC_WORD` (R84). -/
  legacyMagic : BitVec 16
  /-- `STATION_ID`, six opaque bytes, the first one in the high byte (R85). -/
  stationId : BitVec 48
  /-- `START_MARKER`, a parameter with a default (D10). -/
  startMarker : List Byte
  /-- `SAMPLE_RATE`, samples per second per channel. -/
  sampleRate : PositiveInt
  /-- `FRAME_MS`, frame duration in milliseconds. -/
  frameMs : PositiveInt
  /-- `CHANNELS`. -/
  channels : PositiveInt
  /-- `BITRATE`, read by the codec collaborator only. -/
  bitrate : PositiveInt
  /-- `TARGET_ADDR`, opaque, read by the transport only. -/
  targetAddr : List Byte
  /-- `TARGET_PORT`, opaque, read by the transport only. -/
  targetPort : Nat
  /-- `PTT_INPUT_ID`, opaque, read by HW only. -/
  pttInputId : List Byte
  /-- `INDICATOR_OUTPUT_ID`, opaque, read by HW only. -/
  indicatorOutputId : List Byte
  /-- `TRANSPORT_INIT_OK`, the reset value of `TRANSPORT_OPEN` (D14). -/
  transportInitOk : Bool
deriving DecidableEq, Repr

/-- What `Codec(pcm, sampleCount)` answers (R13). -/
inductive CodecAnswer where
  | ok (packet : List Byte)
  | fail
deriving DecidableEq, Repr

/-- What `Transport(frame)` answers (R13): `ok n` with `n` the number of bytes accepted. -/
inductive TransportAnswer where
  | ok (n : Nat)
  | fail
deriving DecidableEq, Repr

/-- `MAX_PAYLOAD`, "(field width bound)" (R14). -/
def maxPayload : Nat := 65535

/-- `BYTES_PER_SAMPLE`, 2 for signed 16-bit PCM (R14). -/
def bytesPerSample : Nat := 2

/-- `CNT_W`, the width of each statistics counter (R14, R33). -/
def counterWidth : Nat := 64

/-- The largest value a statistics counter holds, `2^CNT_W - 1` (R33). -/
def counterMax : Nat := 2 ^ counterWidth - 1

/-- The default of `START_MARKER`: ASCII `PTT_START` (R14, K1). -/
def defaultStartMarker : List Byte := [0x50, 0x54, 0x54, 0x5F, 0x53, 0x54, 0x41, 0x52, 0x54]

/-- `STOP_MARKER`: ASCII `PTT_STOP`, fixed (R14, K1). -/
def stopMarker : List Byte := [0x50, 0x54, 0x54, 0x5F, 0x53, 0x54, 0x4F, 0x50]

/-! Free values: what HOST supplies for the parameters R14 leaves OPEN. -/

/-- The variant HOST supplies at construction. -/
opaque Config.suppliedVariant : Variant
/-- The sync word HOST supplies. -/
opaque Config.suppliedSyncWord : BitVec 16
/-- The legacy magic HOST supplies. -/
opaque Config.suppliedLegacyMagic : BitVec 16
/-- The station identifier HOST supplies. -/
opaque Config.suppliedStationId : BitVec 48
/-- One less than the frame duration HOST supplies. -/
opaque Config.suppliedFrameMsPred : Nat
/-- One less than the sample rate HOST supplies, counted in the smallest rate that R148 accepts. -/
opaque Config.suppliedRateStepsPred : Nat
/-- One less than the channel count HOST supplies. -/
opaque Config.suppliedChannelsPred : Nat
/-- One less than the bit rate HOST supplies. -/
opaque Config.suppliedBitratePred : Nat
/-- The destination address HOST supplies. -/
opaque Config.suppliedTargetAddr : List Byte
/-- The destination port HOST supplies. -/
opaque Config.suppliedTargetPort : Nat
/-- The input identifier HOST supplies. -/
opaque Config.suppliedPttInputId : List Byte
/-- The output identifier HOST supplies. -/
opaque Config.suppliedIndicatorOutputId : List Byte
/-- Whether the transport is usable after construction. -/
opaque Config.suppliedTransportInitOk : Bool

/-- The frame duration HOST supplies. -/
def Config.suppliedFrameMs : PositiveInt := .next Config.suppliedFrameMsPred

/-- The sample rate HOST supplies: a free positive multiple of `1000 / gcd(FRAME_MS, 1000)`. Those are
exactly the positive rates for which `SAMPLE_RATE * FRAME_MS` is a multiple of 1000 (R148). -/
def Config.suppliedSampleRate : PositiveInt :=
  ⟨(Config.suppliedRateStepsPred + 1) * (1000 / Nat.gcd Config.suppliedFrameMs.val 1000),
    Nat.mul_pos (Nat.succ_pos _)
      (Nat.div_pos (Nat.gcd_le_right _ (by decide)) (Nat.gcd_pos_of_pos_right _ (by decide)))⟩

/-- The configuration HOST supplied at the construction that `State.reset` stands for. Its
sample rate is of the form R148 accepts, so the construction succeeded (R236). -/
def Config.supplied : Config where
  variant := Config.suppliedVariant
  syncWord := Config.suppliedSyncWord
  legacyMagic := Config.suppliedLegacyMagic
  stationId := Config.suppliedStationId
  startMarker := defaultStartMarker
  sampleRate := Config.suppliedSampleRate
  frameMs := Config.suppliedFrameMs
  channels := .next Config.suppliedChannelsPred
  bitrate := .next Config.suppliedBitratePred
  targetAddr := Config.suppliedTargetAddr
  targetPort := Config.suppliedTargetPort
  pttInputId := Config.suppliedPttInputId
  indicatorOutputId := Config.suppliedIndicatorOutputId
  transportInitOk := Config.suppliedTransportInitOk

/-- Which world HOST constructed the block in: everything outside OVP-TX that the oracles' answers may
depend on besides what they have been asked. -/
opaque Config.suppliedEnvironment : Nat

/-- What the codec answers when the presented line names no answer: `none` is `Fail`, `some p` is `Ok p`.
Free but for the bound of R166, and free to depend on the world, on the configuration, on every earlier buffer
it was asked about, `earlier`, oldest first, and on the buffer: "a codec has internal state" (R166). -/
opaque Config.codecOracle (environment : Nat) (c : Config) (earlier : List (List Byte)) (pcm : List Byte)
    (sampleCount : Nat) :
  Option { p : List Byte // p.length ≤ maxPayload }

/-- What the transport answers when the presented line names no answer: `none` is `Fail`, `some n` is `Ok n`.
Free but for the bound `0 <= n <= len(F)` of R182, and free to depend on the world, on the configuration, on
every earlier frame handed to it, `earlier`, oldest first, and on the frame. -/
opaque Config.transportOracle (environment : Nat) (c : Config) (earlier : List (List Byte))
    (frame : List Byte) :
  Option (Fin (frame.length + 1))

end Sys2Proof
end

