-- ==== Sys2Proof/Syntax.lean ====
section
/-! DEFINITION. The instruction set: one constructor for each row of spec/opcode_table.json, the thirteen
operations of R3 and R99 and the eight frame formats of R97, and the two forms in which one is
presented. -/

namespace Sys2Proof

/-- One row of the opcode table with its operands. A byte-string operand is whole (R50). -/
inductive Instr where
  /-- `ENC_AUDIO P` (R113). -/
  | encAudio (payload : List Byte)
  /-- `ENC_CONTROL P` (R114). -/
  | encControl (payload : List Byte)
  /-- `PARSE D` (R131). -/
  | parse (data : List Byte)
  /-- `SEQ_READ` (R116). -/
  | seqRead
  /-- `VALIDATE N, B` (R146). -/
  | validate (expectedLength : Nat) (buffer : List Byte)
  /-- `PTT_PRESS` (R156, R157). -/
  | pttPress
  /-- `PTT_RELEASE` (R160, R161). -/
  | pttRelease
  /-- `AUDIO_BUF B` (R164, R165). -/
  | audioBuf (buffer : List Byte)
  /-- `SHUTDOWN` (R171). -/
  | shutdown
  /-- `SEND F` (R181). -/
  | send (frame : List Byte)
  /-- `SND_STATS` (R185). -/
  | sndStats
  /-- `CLOSE` (R187). -/
  | close
  /-- `REPORT` (R190). -/
  | report
  /-- An Audio frame in the current layout, given as data (R81, R97). -/
  | frameAudioCurrent (sync : BitVec 16) (station : BitVec 48) (sequence : BitVec 16) (length : BitVec 16) (payload : List Byte)
  /-- A Text frame in the current layout. -/
  | frameTextCurrent (sync : BitVec 16) (station : BitVec 48) (sequence : BitVec 16) (length : BitVec 16) (payload : List Byte)
  /-- A Control frame in the current layout. -/
  | frameControlCurrent (sync : BitVec 16) (station : BitVec 48) (sequence : BitVec 16) (length : BitVec 16) (payload : List Byte)
  /-- A Data frame in the current layout. -/
  | frameDataCurrent (sync : BitVec 16) (station : BitVec 48) (sequence : BitVec 16) (length : BitVec 16) (payload : List Byte)
  /-- An Audio frame in the legacy layout (R82, R97). -/
  | frameAudioLegacy (magic : BitVec 16) (sequence : BitVec 16) (length : BitVec 16) (payload : List Byte)
  /-- A Text frame in the legacy layout. -/
  | frameTextLegacy (magic : BitVec 16) (sequence : BitVec 16) (length : BitVec 16) (payload : List Byte)
  /-- A Control frame in the legacy layout. -/
  | frameControlLegacy (magic : BitVec 16) (sequence : BitVec 16) (length : BitVec 16) (payload : List Byte)
  /-- A Data frame in the legacy layout. -/
  | frameDataLegacy (magic : BitVec 16) (sequence : BitVec 16) (length : BitVec 16) (payload : List Byte)
deriving DecidableEq, Repr

/-- What an agent presents. The spec's form is the command packet of R98; a bare frame, given as data in
the layout of one variant, is the model's own form for the frame rows (notes/assumptions/5.md). -/
inductive Input where
  /-- A command packet (R98). -/
  | command (packet : List Byte)
  /-- The bytes of a frame written in the layout of `layout` (R97). -/
  | frame (layout : Variant) (bytes : List Byte)
deriving DecidableEq, Repr

end Sys2Proof
end

