-- ==== Sys2Proof/Machine/State.lean ====
section
/-! DEFINITION. The state of OVP-TX as plain data: the registers of spec/10_state.md R20, the status and
result of the last operation (R101), the parameters of the step relation (R21) that the host's form of a
step has no other place for, and the ghost output trace of R42 with the counts R37 and R38 speak of. -/

namespace Sys2Proof.Machine

/-- `PTT_STATE` (R26): `Idle` is 0, `Transmitting` is 1. -/
inductive PttState where
  | idle
  | transmitting
deriving DecidableEq, Repr

/-- The level of HW's two-state output (R28). -/
inductive Level where
  | off
  | on
deriving DecidableEq, Repr

/-- The result status of an operation, the ten kinds of R101. -/
inductive Status where
  | ok
  | validationError
  | encodeError
  | transmitError
  | parseError
  | configurationError
  | ignored
  | discarded
  | halted
  | illegalOp
deriving DecidableEq, Repr

/-- The three agents that present operations (R12). -/
inductive Agent where
  | hw
  | aud
  | host
deriving DecidableEq, Repr

/-- The `Frame` record `PARSE` returns (R130). -/
structure Parsed where
  /-- Six bytes, the first one in the high byte; present in the current variant only. -/
  stationId : Option (BitVec 48)
  /-- The type byte as found (R134). -/
  frameType : Byte
  /-- The sequence field. -/
  sequence : BitVec 16
  /-- The payload length the header declares. -/
  payloadLength : Nat
  /-- The payload, clamped to the bytes that are there (R135). -/
  payload : List Byte
deriving DecidableEq, Repr

/-- The structured snapshot of R189. -/
structure Snapshot where
  framesEncoded : Nat
  framesSent : Nat
  invalidFrames : Nat
  encodingErrors : Nat
  packetsSent : Nat
  bytesSent : Nat
  errors : Nat
  /-- The exact rational of R191; absent when no frame was encoded. -/
  successRate : Option Rat
deriving DecidableEq, Repr

/-- What an operation returns to whoever presented it. -/
inductive Result where
  /-- The frame a create operation built (R113, R114). -/
  | frame (bytes : List Byte)
  /-- The record `PARSE` returned (R130). -/
  | parsed (record : Parsed)
  /-- `PARSE` returned absent (R131). -/
  | absent
  /-- `SEQ_READ` (R116). -/
  | sequence (value : BitVec 16)
  /-- `VALIDATE` (R146). -/
  | valid (verdict : Bool)
  /-- `SEND` (R181). -/
  | sent (accepted : Bool)
  /-- `SND_STATS` (R185). -/
  | senderStats (packetsSent bytesSent errors : Nat)
  /-- `REPORT` (R190). -/
  | report (snapshot : Snapshot)
deriving DecidableEq, Repr

/-- One `emit` of the ghost output trace (R18, R42). -/
inductive Event where
  /-- The indicator output is driven. -/
  | indicator (level : Level)
  /-- A frame is handed to the transport, with its answer. -/
  | transport (frame : List Byte) (answer : TransportAnswer)
  /-- The report that a release triggers. -/
  | report (snapshot : Snapshot)
  /-- The response `continue` to the audio collaborator. -/
  | audioContinue
  /-- AUD is asked to stop delivering buffers. -/
  | stopDelivery
  /-- A result is put on the result output. -/
  | result (value : Result)
deriving DecidableEq, Repr

/-- One line of an operation stream (R102): who presents what, and the oracle answers the line assumes.
An answer that is `none` is not assumed: the oracle's own, which is free. -/
structure Line where
  agent : Agent
  input : Input
  codec : Option CodecAnswer
  transport : Option TransportAnswer
deriving DecidableEq, Repr

/-- The machine's state. -/
structure State where
  /-- `SEQ` (R22). -/
  seq : BitVec 16
  /-- `PTT_STATE` (R26). -/
  pttState : PttState
  /-- `INDICATOR` (R28). -/
  indicator : Level
  /-- `HALTED` (R29). -/
  halted : Bool
  /-- `FRAMES_ENCODED` (R32). -/
  framesEncoded : Nat
  /-- `FRAMES_SENT` (R32). -/
  framesSent : Nat
  /-- `INVALID_FRAMES` (R32). -/
  invalidFrames : Nat
  /-- `ENCODING_ERRORS` (R32). -/
  encodingErrors : Nat
  /-- `PACKETS_SENT` (R32). -/
  packetsSent : Nat
  /-- `BYTES_SENT` (R32). -/
  bytesSent : Nat
  /-- `ERRORS` (R32). -/
  errors : Nat
  /-- `TRANSPORT_OPEN` (R35). -/
  transportOpen : Bool
  /-- The configuration registers (R36). -/
  config : Config
  /-- The status with which the last operation ended (R101). -/
  status : Status
  /-- What the last operation returned to its presenter; `none` where its rule returns nothing. -/
  result : Option Result
  /-- The MODEL's own: the operations still to be presented, in the order in which OVP-TX takes them
  (R21, R57; notes/assumptions/3.md). No operation reads or writes it. -/
  script : List Line
  /-- The MODEL's own: who presented the last operation (R12). -/
  presenter : Agent
  /-- The MODEL's own: the codec answer the presented line assumes. -/
  codecScript : Option CodecAnswer
  /-- The MODEL's own: the transport answer the presented line assumes. -/
  transportScript : Option TransportAnswer
  /-- The MODEL's own: the buffers the codec has been asked about, oldest first. It stands for the codec's
  internal state (R166), selects its free answer, and is read by nothing else. -/
  codecAsked : List (List Byte)
  /-- The MODEL's own: the frames handed to the transport, oldest first; selects its free answer. -/
  transportAsked : List (List Byte)
  /-- The MODEL's own: the world outside OVP-TX, fixed for a run; selects the oracles' free answers, so that
  two runs with equal histories need not get equal answers (R166, R182; notes/assumptions/2.md). -/
  environment : Nat
  /-- The ghost output trace, oldest first (R42). No rule reads it. -/
  trace : List Event
  /-- Ghost: frames created since reset (R37 a). -/
  created : Nat
  /-- Ghost: `SEND` performed since reset (R37 c). -/
  sends : Nat
  /-- Ghost: `PTT_PRESS` and `PTT_RELEASE` that took their transition (R38 g). -/
  edges : Nat
  /-- Ghost: a direct `ENC_AUDIO`, `ENC_CONTROL` or `SEND` was performed (R38). -/
  hostDirect : Bool
deriving DecidableEq, Repr

/-- OVP-TX has no fault: "Nothing in OVP-TX is a fault in the sense of a trap" (R205), so the type has no
constructor. -/
inductive Fault where
deriving DecidableEq, Repr

/-- Why a step is refused: the cases of R205, to which the spec gives no meaning. -/
inductive Refusal where
  /-- Raised by `exec` for an instruction that has no meaning yet. Safe. No arm raises it. -/
  | notModelled (mnemonic : String)
  /-- Raised by a create operation whose payload is longer than 65535 bytes (R115). Safe. -/
  | payloadTooLong
  /-- Raised by `AUDIO_BUF` when the codec answers a packet longer than 65535 bytes (R166). Safe. -/
  | codecPacketTooLong
  /-- Raised by an operation that sends, when the transport answers `Ok(n)` with `n > len(F)` (R182).
  Safe. -/
  | transportOverAccept
  /-- Raised by an operation after which a counter would exceed `2^CNT_W - 1` (R33). Safe. -/
  | counterOverflow
deriving DecidableEq, Repr

/-- The state after a successful construction with configuration `c` in the world `environment` (R231): the
reset column of R20; the indicator output has been driven to `off` (R232) and nothing else emitted. -/
def State.initial (c : Config) (environment : Nat) : State where
  seq := 0
  pttState := .idle
  indicator := .off
  halted := false
  framesEncoded := 0
  framesSent := 0
  invalidFrames := 0
  encodingErrors := 0
  packetsSent := 0
  bytesSent := 0
  errors := 0
  transportOpen := c.transportInitOk
  config := c
  status := .ok
  result := none
  script := []
  presenter := .host
  codecScript := none
  transportScript := none
  codecAsked := []
  transportAsked := []
  environment := environment
  trace := [.indicator .off]
  created := 0
  sends := 0
  edges := 0
  hostDirect := false

/-- The machine right after reset (R230, R231), constructed with the configuration HOST supplied. -/
def State.reset : State := State.initial Config.supplied Config.suppliedEnvironment

end Sys2Proof.Machine
end

