-- ==== Sys2Proof/Machine/Flags.lean ====
section
/-! DEFINITION. Flags and status values. No operation sets a condition code (R30); the one flag the source
names is the active flag, which is `PTT_STATE` read as a boolean (R27). The numbers of the encodings of R20
and R101 stand here, with the status each recoverable error ends in (R200). -/

namespace Sys2Proof.Machine

/-- The active flag: true exactly when `PTT_STATE = Transmitting` (R27). -/
def State.active (s : State) : Bool := decide (s.pttState = .transmitting)

/-- The 1-bit encoding of `PTT_STATE` (R26, D6). -/
def PttState.bit : PttState → BitVec 1
  | .idle => 0
  | .transmitting => 1

/-- The 1-bit encoding of `INDICATOR` (R20). -/
def Level.bit : Level → BitVec 1
  | .off => 0
  | .on => 1

/-- The status numbers of R101. -/
def Status.code : Status → Nat
  | .ok => 0
  | .validationError => 1
  | .encodeError => 2
  | .transmitError => 3
  | .parseError => 4
  | .configurationError => 5
  | .ignored => 6
  | .discarded => 7
  | .halted => 8
  | .illegalOp => 9

/-- The status of an operation whose last act was a send: `OK` if it returned true, else `TransmitError`
(R156, R160, R164, R181). -/
def sendStatus (sent : Bool) : Status := if sent then .ok else .transmitError

/-- The status of `VALIDATE` (R146). -/
def validStatus (verdict : Bool) : Status := if verdict then .ok else .validationError

/-- The status of `PARSE` (R131). -/
def parseStatus (record : Option Parsed) : Status := if record.isSome then .ok else .parseError

/-- What the presenter of the last operation is told of its status: AUD receives only `continue`, so it is
told nothing (R203, D32). -/
def State.statusReturned (s : State) : Option Status :=
  match s.presenter with
  | .aud => none
  | .hw => some s.status
  | .host => some s.status

end Sys2Proof.Machine
end

