-- ==== Sys2Proof/Machine/Bytes.lean ====
section
/-! DEFINITION. Byte order and byte access: every integer field is big-endian (R53), `be16` and `be24`
are those of R17, `B[i]` and `B[a..b)` those of R16. -/

namespace Sys2Proof.Machine

/-- `be16(v)`: `[v div 256, v mod 256]` (R17). -/
def be16 (v : Nat) : List Byte := [BitVec.ofNat 8 (v / 256), BitVec.ofNat 8 (v % 256)]

/-- `be24(v)`, three bytes, most significant first (R17). -/
def be24 (v : Nat) : List Byte :=
  [BitVec.ofNat 8 (v / 65536), BitVec.ofNat 8 (v / 256 % 256), BitVec.ofNat 8 (v % 256)]

/-- `from_be16` of the two bytes `hi`, `lo` (R17). -/
def fromBe16 (hi lo : Byte) : Nat := hi.toNat * 256 + lo.toNat

/-- `from_be24` of three bytes (R17). -/
def fromBe24 (hi mid lo : Byte) : Nat := hi.toNat * 65536 + mid.toNat * 256 + lo.toNat

/-- The `k`-byte big-endian string of `v`: byte 0 is the most significant (R53). -/
def toBe : Nat → Nat → List Byte
  | 0, _ => []
  | k + 1, v => toBe k (v / 256) ++ [BitVec.ofNat 8 v]

/-- A byte string read as one big-endian integer (R53). -/
def fromBe (bytes : List Byte) : Nat := bytes.foldl (fun acc b => acc * 256 + b.toNat) 0

/-- The first `k` bytes of `w` numbered as spec/opcode_table.json numbers an instruction's bits: byte 0
is bits 7..0, byte 1 bits 15..8. -/
def tableBytes : Nat → Nat → List Byte
  | 0, _ => []
  | k + 1, w => BitVec.ofNat 8 w :: tableBytes k (w / 256)

/-- `B[i]`; 0 past the end, where no rule reads (R132 tests the length first). -/
def byteAt (bytes : List Byte) (i : Nat) : Byte := bytes.getD i 0

/-- `B[a..b)`: the bytes from index `a` up to but not including `b` (R16). -/
def slice (bytes : List Byte) (a b : Nat) : List Byte := (bytes.drop a).take (b - a)

end Sys2Proof.Machine
end

