-- ==== Sys2Proof/Machine/Operands.lean ====
section
/-! DEFINITION. The operand forms: the configured values an operation reads (R14, R83, R148) and the
fields of a frame at their fixed byte offsets, which is the one addressing mode OVP-TX has (R91, R120). -/

namespace Sys2Proof.Machine

/-- `HeaderSize(VARIANT)`: 14 or 8 (R83). -/
def headerSize (c : Config) : Nat :=
  match c.variant with
  | .current => 14
  | .legacy => 8

/-- `TypeOff(VARIANT)`, the offset of the frame-type byte: 8 or 2 (R83). -/
def typeOff (c : Config) : Nat :=
  match c.variant with
  | .current => 8
  | .legacy => 2

/-- `Marker(VARIANT)`: `SYNC_WORD` or `LEGACY_MAGIC` as two bytes (R83, R53). -/
def marker (c : Config) : List Byte :=
  match c.variant with
  | .current => be16 c.syncWord.toNat
  | .legacy => be16 c.legacyMagic.toNat

/-- `STATION_ID` as six bytes, byte 0 first (R53, R85). -/
def stationBytes (c : Config) : List Byte := toBe 6 c.stationId.toNat

/-- `SAMPLE_COUNT = SAMPLE_RATE * FRAME_MS / 1000` (R169). -/
def sampleCount (c : Config) : Nat := c.sampleRate.val * c.frameMs.val / 1000

/-- `EXPECTED_LEN = (SAMPLE_RATE * FRAME_MS / 1000) * 2 * CHANNELS` (R148). -/
def expectedLen (c : Config) : Nat := sampleCount c * bytesPerSample * c.channels.val

/-- `SAMPLE_RATE * FRAME_MS` is a multiple of 1000, which construction requires (R148, R236). -/
def lengthIsWhole (c : Config) : Bool := decide (c.sampleRate.val * c.frameMs.val % 1000 = 0)

/-- The frame-type byte of `D`, at `TypeOff` (R91). -/
def typeField (c : Config) (d : List Byte) : Byte := byteAt d (typeOff c)

/-- The sequence field of `D`: `D[o+1] * 256 + D[o+2]` (R91). -/
def sequenceField (c : Config) (d : List Byte) : Nat :=
  fromBe16 (byteAt d (typeOff c + 1)) (byteAt d (typeOff c + 2))

/-- The payload-length field of `D`: `D[o+3] * 256 + D[o+4]` (R91). -/
def lengthField (c : Config) (d : List Byte) : Nat :=
  fromBe16 (byteAt d (typeOff c + 3)) (byteAt d (typeOff c + 4))

/-- The station identifier of `D`: `D[2..8)` in the current variant, none in the legacy one (R91). -/
def stationField (c : Config) (d : List Byte) : Option (BitVec 48) :=
  match c.variant with
  | .current => some (BitVec.ofNat 48 (fromBe (slice d 2 8)))
  | .legacy => none

end Sys2Proof.Machine
end

