-- ==== Sys2Proof/Machine/Ops.lean ====
section
/-! DEFINITION. The shared operations: emitting, ending an operation with a status, asking the two
oracles, creating a frame (R110, R112), sending one (R181), the snapshot (R189), and the refusals of R205.

OVP-TX has no trap: an error is contained in the operation that meets it (R201, R212). `State.finish` is the
one operation by which every rule ends, the spec's `raise Kind` among them (R18, R204): the writes made
before it stay, the status is recorded, nothing is saved and control goes nowhere, so there is nothing to
return from (R213). -/

namespace Sys2Proof.Machine

open Host

/-- `emit(port, v)` (R18): appends to the ghost trace. -/
def State.emit (s : State) (e : Event) : State := { s with trace := s.trace ++ [e] }

/-- The operation ends with status `k` and result `r` (R18, R101, R204). -/
def State.finish (s : State) (k : Status) (r : Option Result) : State := { s with status := k, result := r }

/-- `emit(result, r); status k` (R113, R116, R146, R185, R190). -/
def State.finishWith (s : State) (k : Status) (r : Result) : State := (s.emit (.result r)).finish k (some r)

/-- No counter exceeds `2^CNT_W - 1` (R33). -/
abbrev State.CountersFit (s : State) : Prop :=
  s.framesEncoded ≤ counterMax ∧ s.framesSent ≤ counterMax ∧ s.invalidFrames ≤ counterMax ∧
  s.encodingErrors ≤ counterMax ∧ s.packetsSent ≤ counterMax ∧ s.bytesSent ≤ counterMax ∧
  s.errors ≤ counterMax

/-- The end of an operation that counts: a state in which a counter would exceed `2^CNT_W - 1` is refused,
neither wrapped nor saturated (R33, R205). -/
def commit (s : State) : Outcome State Fault Refusal :=
  if s.CountersFit then .next s else .refused .counterOverflow

/-! The oracles. -/

/-- The answer of `Transport(F)` (R13): the presented line's, or the transport's own. -/
def transportAnswer (s : State) (frame : List Byte) : TransportAnswer :=
  match s.transportScript with
  | some a => a
  | none =>
    match Config.transportOracle s.environment s.config s.transportAsked frame with
    | some n => .ok n.val
    | none => .fail

/-- The answer of `Codec(B, SAMPLE_COUNT)` (R13, R169): the presented line's, or the codec's own. -/
def codecAnswer (s : State) (pcm : List Byte) : CodecAnswer :=
  match s.codecScript with
  | some a => a
  | none =>
    match Config.codecOracle s.environment s.config s.codecAsked pcm (sampleCount s.config) with
    | some p => .ok p.val
    | none => .fail

/-- The codec has been asked about a buffer (R166). -/
def State.noteCodec (s : State) (pcm : List Byte) : State := { s with codecAsked := s.codecAsked ++ [pcm] }

/-- The frame was handed to the transport, which answered `a` (R42, R60). -/
def State.noteTransport (s : State) (frame : List Byte) (a : TransportAnswer) : State :=
  { s with transportAsked := s.transportAsked ++ [frame], trace := s.trace ++ [.transport frame a] }

/-! Frames. -/

/-- `BuildHeader(t, s, L)` (R110). -/
def buildHeader (c : Config) (type : Byte) (sequence : BitVec 16) (length : Nat) : List Byte :=
  match c.variant with
  | .current =>
    be16 c.syncWord.toNat ++ stationBytes c ++ [type] ++ be16 sequence.toNat ++ be16 length ++ [0x00]
  | .legacy => be16 c.legacyMagic.toNat ++ [type] ++ be16 sequence.toNat ++ be16 length ++ [0x00]

/-- The type byte of an Audio frame (R86). -/
def audioType : Byte := 0x01

/-- The type byte of a Control frame (R86). -/
def controlType : Byte := 0x03

/-- The write of `CreateFrame`: `SEQ <- (SEQ + 1) mod 65536` (R112, R117). -/
def State.bumpSeq (s : State) : State := { s with seq := s.seq + 1, created := s.created + 1 }

/-- `CreateFrame(t, P)` (R112): the header carries the counter's new value. The caller has checked
`len(P) <= 65535`. -/
def createFrame (type : Byte) (payload : List Byte) (s : State) : List Byte × State :=
  (buildHeader s.config type s.bumpSeq.seq payload.length ++ payload, s.bumpSeq)

/-! Sending. -/

/-- The writes of a successful send of which `n` bytes were accepted (R181). -/
def State.countSent (s : State) (n : Nat) : State :=
  { s with packetsSent := s.packetsSent + 1, bytesSent := s.bytesSent + n, sends := s.sends + 1 }

/-- The write of a failed send (R181). -/
def State.countFailed (s : State) : State := { s with errors := s.errors + 1, sends := s.sends + 1 }

/-- `SEND(F)` (R181): the open test first (R211), then one question; `n > len(F)` is no answer the
transport may give (R182). -/
def sendFrame (frame : List Byte) (s : State) : Except Refusal (Bool × State) :=
  if s.transportOpen then
    match transportAnswer s frame with
    | .ok n =>
      if n ≤ frame.length then .ok (true, (s.noteTransport frame (.ok n)).countSent n)
      else .error .transportOverAccept
    | .fail => .ok (false, (s.noteTransport frame .fail).countFailed)
  else .ok (false, s.countFailed)

/-- `F <- call ENC_x(P); ok <- call SEND(F)` (R156, R160, R164), with the payload bound of R115. -/
def createAndSend (type : Byte) (payload : List Byte) (s : State) : Except Refusal (Bool × State) :=
  if payload.length ≤ maxPayload then
    sendFrame (createFrame type payload s).1 (createFrame type payload s).2
  else .error .payloadTooLong

/-- An operation whose last act was a send goes on with what the send returned, and ends. -/
def settle (sent : Except Refusal (Bool × State)) (rest : Bool → State → State) :
    Outcome State Fault Refusal :=
  match sent with
  | .ok (b, s) => commit (rest b s)
  | .error r => .refused r

/-! The validator and the statistics. -/

/-- `Valid(B, N)` (R145). -/
def validBuffer (buffer : List Byte) (n : Nat) : Bool :=
  if buffer.length ≠ n then false
  else if buffer.all (fun b => b == 0x00) then false
  else true

/-- `successRate`: `100 * FRAMES_SENT / FRAMES_ENCODED` exactly, absent when no frame was encoded (R191). -/
def successRate (framesSent framesEncoded : Nat) : Option Rat :=
  if 0 < framesEncoded then some (mkRat (framesSent * 100) framesEncoded) else none

/-- `Snapshot()` (R189). -/
def State.snapshot (s : State) : Snapshot where
  framesEncoded := s.framesEncoded
  framesSent := s.framesSent
  invalidFrames := s.invalidFrames
  encodingErrors := s.encodingErrors
  packetsSent := s.packetsSent
  bytesSent := s.bytesSent
  errors := s.errors
  successRate := successRate s.framesSent s.framesEncoded

/-- Ghost: HOST used a unit operation directly (R38). -/
def State.markDirect (s : State) : State := { s with hostDirect := true }

/-- `TRANSPORT_OPEN <- 0` (R187). -/
def State.closeTransport (s : State) : State := { s with transportOpen := false }

end Sys2Proof.Machine
end

