-- ==== Sys2Proof/Machine/Encoder.lean ====
section
/-! DEFINITION. Unit ENC, the building half: `ENC_AUDIO`, `ENC_CONTROL`, `SEQ_READ`
(spec/40_frame_encoder.md). -/

namespace Sys2Proof.Machine

open Host

/-- A create operation presented directly: `F <- CreateFrame(t, P); emit(frame_result, F); status OK`
(R113, R114); a payload over 65535 bytes is refused (R115). -/
def createDirect (type : Byte) (payload : List Byte) (s : State) : Outcome State Fault Refusal :=
  if payload.length ≤ maxPayload then
    .next ((createFrame type payload s).2.markDirect.finishWith .ok (.frame (createFrame type payload s).1))
  else .refused .payloadTooLong

/-- `ENC_AUDIO` (R113). -/
def execEncAudio (payload : List Byte) (s : State) : Outcome State Fault Refusal :=
  createDirect audioType payload s

/-- `ENC_CONTROL` (R114). -/
def execEncControl (payload : List Byte) (s : State) : Outcome State Fault Refusal :=
  createDirect controlType payload s

/-- `SEQ_READ`: `emit(result, SEQ); status OK` (R116). -/
def execSeqRead (s : State) : Outcome State Fault Refusal := .next (s.finishWith .ok (.sequence s.seq))

end Sys2Proof.Machine
end

