-- ==== Sys2Proof/Decode.lean ====
section
/-! DEFINITION. The decoder, total on any bytes and rejecting by name, and after it the encoder, both
written from the spec's encodings: the command packet of R98 to R100 and the frame patterns of R81, R82 and
R97, whose bit columns read the header as one big-endian integer. -/

namespace Sys2Proof

open Sys2Proof.Machine

/-- Why a presented input spells no row of the opcode table. Raised by the decoder alone; none is a stop of
the machine, which answers status `IllegalOp` and goes on (R100), so each is safe. -/
inductive Reject where
  /-- Fewer than the four bytes of a packet's head (R98). -/
  | truncatedPacket
  /-- Byte 0 has a non-zero high nibble (R100). -/
  | highNibble
  /-- Operation code 0x5, 0x6 or 0x7 (R100). -/
  | reservedCode
  /-- The operand is shorter than `N` (R100). -/
  | operandShort
  /-- Bytes follow the operand (U9; notes/assumptions/6.md). -/
  | operandSurplus
  /-- `N` is not 0 for an operation with no operand (R100). -/
  | operandNotEmpty
  /-- `N < 3` for `VALIDATE` (R100). -/
  | validateShort
  /-- A bare frame shorter than the header of its layout. -/
  | frameShort
  /-- A bare frame whose type byte is none of 0x01 to 0x04. -/
  | frameType
  /-- A bare frame whose reserved byte is not 0x00. -/
  | frameReserved
  /-- A bare frame whose payload has not the declared length. -/
  | frameLength
deriving DecidableEq, Repr

/-- An operation marked "none" in R99 takes `N = 0`. -/
def decodeNoOperand (i : Instr) (operand : List Byte) : Except Reject Instr :=
  if operand.isEmpty then .ok i else .error .operandNotEmpty

/-- The operand of `VALIDATE`: `be24(expectedLength) ++ B` (R99). -/
def decodeValidate : List Byte → Except Reject Instr
  | hi :: mid :: lo :: buffer => .ok (.validate (fromBe24 hi mid lo) buffer)
  | _ => .error .validateShort

/-- The table of R99: the operation of a code and its operand. -/
def decodeOperation (code : Nat) (operand : List Byte) : Except Reject Instr :=
  match code with
  | 0x0 => .ok (.encAudio operand)
  | 0x1 => .ok (.encControl operand)
  | 0x2 => .ok (.parse operand)
  | 0x3 => decodeNoOperand .seqRead operand
  | 0x4 => decodeValidate operand
  | 0x8 => decodeNoOperand .pttPress operand
  | 0x9 => decodeNoOperand .pttRelease operand
  | 0xA => .ok (.audioBuf operand)
  | 0xB => decodeNoOperand .shutdown operand
  | 0xC => .ok (.send operand)
  | 0xD => decodeNoOperand .sndStats operand
  | 0xE => decodeNoOperand .close operand
  | 0xF => decodeNoOperand .report operand
  | _ => .error .reservedCode

/-- A command packet: `0000cccc`, `be24(N)`, then the `N` operand bytes (R98). -/
def decodeCommand : List Byte → Except Reject Instr
  | head :: hi :: mid :: lo :: operand =>
    if 16 ≤ head.toNat then .error .highNibble
    else if operand.length < fromBe24 hi mid lo then .error .operandShort
    else if fromBe24 hi mid lo < operand.length then .error .operandSurplus
    else decodeOperation head.toNat operand
  | _ => .error .truncatedPacket

/-- The row of a current-layout frame, from the header read as one 112-bit integer `h`: `bits[111:96]`
sync word, `bits[95:48]` station identifier, `bits[47:40]` type, `bits[39:24]` sequence, `bits[23:8]` length
(R81). -/
def decodeCurrentHeader (h : Nat) (payload : List Byte) : Except Reject Instr :=
  let sync := BitVec.ofNat 16 (h / 2 ^ 96)
  let station := BitVec.ofNat 48 (h / 2 ^ 48)
  let sequence := BitVec.ofNat 16 (h / 2 ^ 24)
  let length := BitVec.ofNat 16 (h / 2 ^ 8)
  match h / 2 ^ 40 % 256 with
  | 0x01 => .ok (.frameAudioCurrent sync station sequence length payload)
  | 0x02 => .ok (.frameTextCurrent sync station sequence length payload)
  | 0x03 => .ok (.frameControlCurrent sync station sequence length payload)
  | 0x04 => .ok (.frameDataCurrent sync station sequence length payload)
  | _ => .error .frameType

/-- The row of a legacy-layout frame, from the header read as one 64-bit integer `h` (R82). -/
def decodeLegacyHeader (h : Nat) (payload : List Byte) : Except Reject Instr :=
  let magic := BitVec.ofNat 16 (h / 2 ^ 48)
  let sequence := BitVec.ofNat 16 (h / 2 ^ 24)
  let length := BitVec.ofNat 16 (h / 2 ^ 8)
  match h / 2 ^ 40 % 256 with
  | 0x01 => .ok (.frameAudioLegacy magic sequence length payload)
  | 0x02 => .ok (.frameTextLegacy magic sequence length payload)
  | 0x03 => .ok (.frameControlLegacy magic sequence length payload)
  | 0x04 => .ok (.frameDataLegacy magic sequence length payload)
  | _ => .error .frameType

/-- The header length of a layout, 14 or 8 bytes (R80). -/
def layoutHeaderSize : Variant → Nat
  | .current => 14
  | .legacy => 8

/-- A frame of the layout `layout` whose header reads as the integer `h`: the reserved byte, `bits[7:0]`, is
0 and the payload has the declared length, `bits[23:8]` (R81, R82, R92). -/
def decodeHeader (layout : Variant) (h : Nat) (payload : List Byte) : Except Reject Instr :=
  if h % 256 = 0 then
    if payload.length = h / 2 ^ 8 % 65536 then
      match layout with
      | .current => decodeCurrentHeader h payload
      | .legacy => decodeLegacyHeader h payload
    else .error .frameLength
  else .error .frameReserved

/-- A bare frame in the layout of `layout`: the header pattern of R97, then the payload. -/
def decodeFrame (layout : Variant) (bytes : List Byte) : Except Reject Instr :=
  if layoutHeaderSize layout ≤ bytes.length then
    decodeHeader layout (fromBe (bytes.take (layoutHeaderSize layout))) (bytes.drop (layoutHeaderSize layout))
  else .error .frameShort

/-- The instruction a presented input spells, or the name of the reason it spells none. -/
def decodeInput : Input → Except Reject Instr
  | .command packet => decodeCommand packet
  | .frame layout bytes => decodeFrame layout bytes

/-! The encoder. -/

/-- The command packet of an operation code and an operand (R98). -/
def packet (code : Nat) (operand : List Byte) : Input :=
  .command (BitVec.ofNat 8 code :: (be24 operand.length ++ operand))

/-- The header of R81 as one 112-bit integer, written as the pattern of R97 in 14 bytes, then the
payload. -/
def currentFrame (sync : BitVec 16) (station : BitVec 48) (type : Nat) (sequence length : BitVec 16)
    (payload : List Byte) : Input :=
  .frame .current
    (toBe 14 (sync.toNat * 2 ^ 96 + station.toNat * 2 ^ 48 + type * 2 ^ 40 + sequence.toNat * 2 ^ 24
      + length.toNat * 2 ^ 8) ++ payload)

/-- The header of R82 as one 64-bit integer, written as the pattern of R97 in 8 bytes, then the
payload. -/
def legacyFrame (magic : BitVec 16) (type : Nat) (sequence length : BitVec 16) (payload : List Byte) :
    Input :=
  .frame .legacy
    (toBe 8 (magic.toNat * 2 ^ 48 + type * 2 ^ 40 + sequence.toNat * 2 ^ 24 + length.toNat * 2 ^ 8)
      ++ payload)

/-- What is presented for an instruction (R97 to R99). -/
def encode : Instr → Input
  | .encAudio p => packet 0x0 p
  | .encControl p => packet 0x1 p
  | .parse d => packet 0x2 d
  | .seqRead => packet 0x3 []
  | .validate n b => packet 0x4 (be24 n ++ b)
  | .pttPress => packet 0x8 []
  | .pttRelease => packet 0x9 []
  | .audioBuf b => packet 0xA b
  | .shutdown => packet 0xB []
  | .send f => packet 0xC f
  | .sndStats => packet 0xD []
  | .close => packet 0xE []
  | .report => packet 0xF []
  | .frameAudioCurrent m i q n p => currentFrame m i 0x01 q n p
  | .frameTextCurrent m i q n p => currentFrame m i 0x02 q n p
  | .frameControlCurrent m i q n p => currentFrame m i 0x03 q n p
  | .frameDataCurrent m i q n p => currentFrame m i 0x04 q n p
  | .frameAudioLegacy m q n p => legacyFrame m 0x01 q n p
  | .frameTextLegacy m q n p => legacyFrame m 0x02 q n p
  | .frameControlLegacy m q n p => legacyFrame m 0x03 q n p
  | .frameDataLegacy m q n p => legacyFrame m 0x04 q n p

/-! The opcode table's own numbering of bits. -/

/-- The frame whose header is the `n` bytes of `w`: its payload is the declared number of zero bytes. -/
def tableFrame (layout : Variant) (w : Nat) : Input :=
  let header := tableBytes (layoutHeaderSize layout) w
  .frame layout (header ++ zeros (fromBe header / 2 ^ 8 % 65536))

/-- The packet that begins with the `nbits / 8` bytes of `w` and goes on in zeros: its operand has the
declared number of bytes. -/
def tablePacket (nbits w : Nat) : Input :=
  let head := tableBytes (max 4 (nbits / 8)) (w % 2 ^ nbits)
  let n := fromBe24 (byteAt head 1) (byteAt head 2) (byteAt head 3)
  .command (head ++ zeros (4 + n - head.length))

/-- What is presented for a row of spec/opcode_table.json whose bits are `w`: a row of 112 or 64 bits is a
frame pattern, any other the head of a command packet. Every bit above `nbits` is 0. -/
def tableInput (nbits w : Nat) : Input :=
  if nbits = 112 then tableFrame .current w
  else if nbits = 64 then tableFrame .legacy w
  else tablePacket nbits w

/-- The instruction the decoder reads from an instruction whose bits are `w`, numbered as
spec/opcode_table.json numbers them. -/
def decodeTableWord (nbits w : Nat) : Option Instr :=
  match decodeInput (tableInput nbits w) with
  | .ok i => some i
  | .error _ => none

end Sys2Proof
end

