-- ==== Sys2Proof/Machine/Parser.lean ====
section
/-! DEFINITION. Unit ENC, the parsing half: `PARSE` (spec/41_frame_parser.md), and the eight frame-format
rows of the opcode table. A frame format is no operation of R3. The one thing the spec lets OVP-TX do with
the bytes of a frame is to parse them, "like any frame" (U10, R94), so that is what a bare frame does
(notes/assumptions/5.md). -/

namespace Sys2Proof.Machine

open Host

/-- `PARSE(D)` as a pure function of the data and the configuration (R131): length test, marker test, then
the fields and the payload clamped to the bytes that are there. -/
def parseFrame (c : Config) (d : List Byte) : Option Parsed :=
  if d.length < headerSize c then none
  else if slice d 0 2 ≠ marker c then none
  else
    some
      { stationId := stationField c d
        frameType := typeField c d
        sequence := BitVec.ofNat 16 (sequenceField c d)
        payloadLength := lengthField c d
        payload := slice d (headerSize c) (headerSize c + min (lengthField c d) (d.length - headerSize c)) }

/-- The result `PARSE` returns: the record or absent (R130). -/
def parseResult : Option Parsed → Result
  | some record => .parsed record
  | none => .absent

/-- Parsing `D` ends with the record and `OK`, or absent and `ParseError`; no register changes (R131). -/
def parseData (d : List Byte) (s : State) : Outcome State Fault Refusal :=
  .next (s.finish (parseStatus (parseFrame s.config d)) (some (parseResult (parseFrame s.config d))))

/-- The bytes of a presented input. -/
def inputBytes : Input → List Byte
  | .command packet => packet
  | .frame _ bytes => bytes

/-- `PARSE` (R131). -/
def execParse (data : List Byte) (s : State) : Outcome State Fault Refusal := parseData data s

/-- A bare `FRAME_AUDIO_CURRENT` frame is parsed (R97, R131). -/
def execFrameAudioCurrent (sync : BitVec 16) (station : BitVec 48) (sequence length : BitVec 16)
    (payload : List Byte) (s : State) : Outcome State Fault Refusal :=
  parseData (inputBytes (currentFrame sync station 0x01 sequence length payload)) s

/-- A bare `FRAME_TEXT_CURRENT` frame is parsed (R94, R131). -/
def execFrameTextCurrent (sync : BitVec 16) (station : BitVec 48) (sequence length : BitVec 16)
    (payload : List Byte) (s : State) : Outcome State Fault Refusal :=
  parseData (inputBytes (currentFrame sync station 0x02 sequence length payload)) s

/-- A bare `FRAME_CONTROL_CURRENT` frame is parsed (R97, R131). -/
def execFrameControlCurrent (sync : BitVec 16) (station : BitVec 48) (sequence length : BitVec 16)
    (payload : List Byte) (s : State) : Outcome State Fault Refusal :=
  parseData (inputBytes (currentFrame sync station 0x03 sequence length payload)) s

/-- A bare `FRAME_DATA_CURRENT` frame is parsed (R94, R131). -/
def execFrameDataCurrent (sync : BitVec 16) (station : BitVec 48) (sequence length : BitVec 16)
    (payload : List Byte) (s : State) : Outcome State Fault Refusal :=
  parseData (inputBytes (currentFrame sync station 0x04 sequence length payload)) s

/-- A bare `FRAME_AUDIO_LEGACY` frame is parsed (R97, R131). -/
def execFrameAudioLegacy (magic sequence length : BitVec 16) (payload : List Byte) (s : State) :
    Outcome State Fault Refusal :=
  parseData (inputBytes (legacyFrame magic 0x01 sequence length payload)) s

/-- A bare `FRAME_TEXT_LEGACY` frame is parsed (R94, R131). -/
def execFrameTextLegacy (magic sequence length : BitVec 16) (payload : List Byte) (s : State) :
    Outcome State Fault Refusal :=
  parseData (inputBytes (legacyFrame magic 0x02 sequence length payload)) s

/-- A bare `FRAME_CONTROL_LEGACY` frame is parsed (R97, R131). -/
def execFrameControlLegacy (magic sequence length : BitVec 16) (payload : List Byte) (s : State) :
    Outcome State Fault Refusal :=
  parseData (inputBytes (legacyFrame magic 0x03 sequence length payload)) s

/-- A bare `FRAME_DATA_LEGACY` frame is parsed (R94, R131). -/
def execFrameDataLegacy (magic sequence length : BitVec 16) (payload : List Byte) (s : State) :
    Outcome State Fault Refusal :=
  parseData (inputBytes (legacyFrame magic 0x04 sequence length payload)) s

end Sys2Proof.Machine
end

