-- ==== Sys2Proof/Machine/Ptt.lean ====
section
/-! DEFINITION. Unit PTT: `PTT_PRESS`, `PTT_RELEASE`, `AUDIO_BUF`, `SHUTDOWN`
(spec/43_ptt_state_machine.md). -/

namespace Sys2Proof.Machine

open Host

/-- `PTT_STATE <- p; INDICATOR <- l; emit(indicator, l)`, the first effects of a taken transition (R156,
R160). -/
def State.takeEdge (s : State) (p : PttState) (l : Level) : State :=
  { s with pttState := p, indicator := l, edges := s.edges + 1, trace := s.trace ++ [.indicator l] }

/-- `PTT_PRESS` in `Idle` takes the transition (R156), in `Transmitting` is ignored (R157), and after
`SHUTDOWN` does nothing (R170). -/
def execPttPress (s : State) : Outcome State Fault Refusal :=
  if s.halted then .next (s.finish .halted none)
  else
    match s.pttState with
    | .transmitting => .next (s.finish .ignored none)
    | .idle =>
      settle (createAndSend controlType s.config.startMarker (s.takeEdge .transmitting .on))
        (fun sent t => t.finish (sendStatus sent) none)

/-- `PTT_RELEASE` in `Transmitting` takes the transition and triggers the report after the send (R160), in
`Idle` is ignored (R161), and after `SHUTDOWN` does nothing (R170). -/
def execPttRelease (s : State) : Outcome State Fault Refusal :=
  if s.halted then .next (s.finish .halted none)
  else
    match s.pttState with
    | .idle => .next (s.finish .ignored none)
    | .transmitting =>
      settle (createAndSend controlType stopMarker (s.takeEdge .idle .off))
        (fun sent t => (t.emit (.report t.snapshot)).finish (sendStatus sent) none)

/-- `INVALID_FRAMES <- INVALID_FRAMES + 1` (R164). -/
def State.countInvalid (s : State) : State := { s with invalidFrames := s.invalidFrames + 1 }

/-- `ENCODING_ERRORS <- ENCODING_ERRORS + 1` (R164). -/
def State.countEncodingError (s : State) : State := { s with encodingErrors := s.encodingErrors + 1 }

/-- `FRAMES_ENCODED <- FRAMES_ENCODED + 1` (R164). -/
def State.countEncoded (s : State) : State := { s with framesEncoded := s.framesEncoded + 1 }

/-- `if ok: FRAMES_SENT <- FRAMES_SENT + 1` (R164). -/
def State.countFrameSent (s : State) (sent : Bool) : State :=
  { s with framesSent := s.framesSent + (if sent then 1 else 0) }

/-- Every path of `AUDIO_BUF` ends so: `emit(audio_response, continue)` and the status (R164, R167). -/
def State.finishAudio (s : State) (k : Status) : State := (s.emit .audioContinue).finish k none

/-- The codec answered a packet (R164, `Ok(pkt)`); a packet over 65535 bytes is no answer it may give
(R166). -/
def transmitPacket (packet : List Byte) (s : State) : Outcome State Fault Refusal :=
  if packet.length ≤ maxPayload then
    settle (createAndSend audioType packet s.countEncoded)
      (fun sent t => (t.countFrameSent sent).finishAudio (sendStatus sent))
  else .refused .codecPacketTooLong

/-- A buffer taken while transmitting: validate, encode, frame, send (R164). -/
def processBuffer (buffer : List Byte) (s : State) : Outcome State Fault Refusal :=
  if validBuffer buffer (expectedLen s.config) then
    match codecAnswer s buffer with
    | .ok packet => transmitPacket packet (s.noteCodec buffer)
    | .fail => commit ((s.noteCodec buffer).countEncodingError.finishAudio .encodeError)
  else commit (s.countInvalid.finishAudio .validationError)

/-- `AUDIO_BUF`, in the order of the tests of R168: halted (R170), idle (R165), then R164. -/
def execAudioBuf (buffer : List Byte) (s : State) : Outcome State Fault Refusal :=
  if s.halted then .next (s.finishAudio .halted)
  else
    match s.pttState with
    | .idle => .next (s.finishAudio .discarded)
    | .transmitting => processBuffer buffer s

/-- The writes and emits of the first `SHUTDOWN`, in its order: stop delivery, close, indicator off, then
`HALTED <- 1` (R171). -/
def State.shutDown (s : State) : State :=
  { s with
    transportOpen := false
    indicator := .off
    halted := true
    trace := s.trace ++ [.stopDelivery, .indicator .off] }

/-- `SHUTDOWN`; a second one does nothing (R171, R172 d). -/
def execShutdown (s : State) : Outcome State Fault Refusal :=
  if s.halted then .next (s.finish .ok none) else .next (s.shutDown.finish .ok none)

end Sys2Proof.Machine
end

