-- ==== Sys2Proof/Machine/Sender.lean ====
section
/-! DEFINITION. Units SND and STA: `SEND`, `SND_STATS`, `CLOSE`, `REPORT`
(spec/44_sender_and_stats.md). -/

namespace Sys2Proof.Machine

open Host

/-- `SEND` presented directly: it returns what the send returned (R181). -/
def execSend (frame : List Byte) (s : State) : Outcome State Fault Refusal :=
  settle (sendFrame frame s.markDirect) (fun sent t => t.finish (sendStatus sent) (some (.sent sent)))

/-- `SND_STATS` (R185). -/
def execSndStats (s : State) : Outcome State Fault Refusal :=
  .next (s.finishWith .ok (.senderStats s.packetsSent s.bytesSent s.errors))

/-- `CLOSE` (R187). -/
def execClose (s : State) : Outcome State Fault Refusal := .next (s.closeTransport.finish .ok none)

/-- `REPORT` (R190). -/
def execReport (s : State) : Outcome State Fault Refusal := .next (s.finishWith .ok (.report s.snapshot))

end Sys2Proof.Machine
end

