-- ==== Sys2Proof/Machine/Validator.lean ====
section
/-! DEFINITION. Unit VAL: `VALIDATE` (spec/42_buffer_validator.md). -/

namespace Sys2Proof.Machine

open Host

/-- `VALIDATE`: `r <- Valid(B, N); emit(result, r)`, status `OK` or `ValidationError`; no counter is
touched (R146). -/
def execValidate (expectedLength : Nat) (buffer : List Byte) (s : State) : Outcome State Fault Refusal :=
  .next (s.finishWith (validStatus (validBuffer buffer expectedLength)) (.valid (validBuffer buffer expectedLength)))

end Sys2Proof.Machine
end

