-- ==== Sys2Proof/Machine/Dispatch.lean ====
section
/-! DEFINITION. The meaning of each instruction, one arm for each row of the opcode table. -/

namespace Sys2Proof.Machine

open Host

def exec (i : Instr) (s : State) : Host.Outcome State Fault Refusal :=
  match i with
  | .encAudio p => Sys2Proof.Machine.execEncAudio p s
  | .encControl p => Sys2Proof.Machine.execEncControl p s
  | .parse d => Sys2Proof.Machine.execParse d s
  | .seqRead => Sys2Proof.Machine.execSeqRead s
  | .validate n b => Sys2Proof.Machine.execValidate n b s
  | .pttPress => Sys2Proof.Machine.execPttPress s
  | .pttRelease => Sys2Proof.Machine.execPttRelease s
  | .audioBuf b => Sys2Proof.Machine.execAudioBuf b s
  | .shutdown => Sys2Proof.Machine.execShutdown s
  | .send f => Sys2Proof.Machine.execSend f s
  | .sndStats => Sys2Proof.Machine.execSndStats s
  | .close => Sys2Proof.Machine.execClose s
  | .report => Sys2Proof.Machine.execReport s
  | .frameAudioCurrent m d q n p => Sys2Proof.Machine.execFrameAudioCurrent m d q n p s
  | .frameTextCurrent m d q n p => Sys2Proof.Machine.execFrameTextCurrent m d q n p s
  | .frameControlCurrent m d q n p => Sys2Proof.Machine.execFrameControlCurrent m d q n p s
  | .frameDataCurrent m d q n p => Sys2Proof.Machine.execFrameDataCurrent m d q n p s
  | .frameAudioLegacy m q n p => Sys2Proof.Machine.execFrameAudioLegacy m q n p s
  | .frameTextLegacy m q n p => Sys2Proof.Machine.execFrameTextLegacy m q n p s
  | .frameControlLegacy m q n p => Sys2Proof.Machine.execFrameControlLegacy m q n p s
  | .frameDataLegacy m q n p => Sys2Proof.Machine.execFrameDataLegacy m q n p s

end Sys2Proof.Machine
end

