-- ==== Sys2Proof/Machine/Fetch.lean ====
section
/-! DEFINITION. Taking the next presented operation, and construction. OVP-TX fetches no instruction
(R25): the next operation is the one an agent presents, here the head of the script
(notes/assumptions/3.md). -/

namespace Sys2Proof.Machine

/-- The state in which the operation of `l` is performed: `l` has been taken off the script, and its
presenter and the oracle answers it assumes are in place. No register changes. -/
def State.take (s : State) (l : Line) (rest : List Line) : State :=
  { s with script := rest, presenter := l.agent, codecScript := l.codec, transportScript := l.transport }

/-- The next operation is the one on line `l`. -/
def State.presentNext (s : State) (l : Line) : State := { s with script := l :: s.script }

/-- The line that presents an instruction of the opcode table whose bits are `w`; it assumes no oracle
answer. -/
def tableLine (nbits w : Nat) : Line where
  agent := .host
  input := tableInput nbits w
  codec := none
  transport := none

/-- An input that spells no operation changes no state and is answered `IllegalOp` (R100). -/
def State.rejectInput (s : State) : State := s.finish .illegalOp none

/-- Construction (R230, R236): partial in the configuration and in whether the codec and the audio backend
initialized; when it fails there is no instance, only `ConfigurationError`. That the audio parameters are
positive (R14) is in their type (notes/assumptions/13.md). -/
def construct (c : Config) (environment : Nat) (codecInit audioInit : Bool) : Except Status State :=
  if codecInit && audioInit && lengthIsWhole c then .ok (State.initial c environment)
  else .error .configurationError

end Sys2Proof.Machine
end

