-- ==== Sys2Proof/Machine/Step.lean ====
section
/-! DEFINITION. One step: one whole operation, atomic (R56). With nothing presented the machine does
nothing and changes no state (R25). -/

namespace Sys2Proof.Machine

/-- One step. -/
def step (s : State) : Host.Outcome State Fault Refusal :=
  match s.script with
  | [] => .next s
  | l :: rest =>
    match decodeInput l.input with
    | .ok i => exec i (s.take l rest)
    | .error _ => .next (s.take l rest).rejectInput

/-- `s` with the instruction whose bits are `w` presented next, so that the next step runs it. -/
def State.withFetchWord (s : State) (nbits w : Nat) : State := s.presentNext (tableLine nbits w)

end Sys2Proof.Machine
end

