-- ==== Sys2Proof/Safety.lean ====
section
/-! DEFINITION. The terms the claims are stated in: the registers of R20 alone, what may be read off the
ghost trace (R42), when an operation is admitted (R205), and the invariants of R37 and R38. -/

namespace Sys2Proof.Machine

/-- The architectural state of R20 and nothing else. -/
structure Registers where
  seq : BitVec 16
  pttState : PttState
  indicator : Level
  halted : Bool
  framesEncoded : Nat
  framesSent : Nat
  invalidFrames : Nat
  encodingErrors : Nat
  packetsSent : Nat
  bytesSent : Nat
  errors : Nat
  transportOpen : Bool
  config : Config
deriving DecidableEq, Repr

/-- The registers of a state. -/
def State.registers (s : State) : Registers where
  seq := s.seq
  pttState := s.pttState
  indicator := s.indicator
  halted := s.halted
  framesEncoded := s.framesEncoded
  framesSent := s.framesSent
  invalidFrames := s.invalidFrames
  encodingErrors := s.encodingErrors
  packetsSent := s.packetsSent
  bytesSent := s.bytesSent
  errors := s.errors
  transportOpen := s.transportOpen
  config := s.config

/-- The frames handed to the transport, in order. -/
def askedFrames : List Event → List (List Byte)
  | [] => []
  | .transport frame _ :: rest => frame :: askedFrames rest
  | .indicator _ :: rest => askedFrames rest
  | .report _ :: rest => askedFrames rest
  | .audioContinue :: rest => askedFrames rest
  | .stopDelivery :: rest => askedFrames rest
  | .result _ :: rest => askedFrames rest

/-- The sum of the `n` of every `Ok(n)` the transport has answered (R37 d). -/
def acceptedBytes : List Event → Nat
  | [] => 0
  | .transport _ (.ok n) :: rest => n + acceptedBytes rest
  | .transport _ .fail :: rest => acceptedBytes rest
  | .indicator _ :: rest => acceptedBytes rest
  | .report _ :: rest => acceptedBytes rest
  | .audioContinue :: rest => acceptedBytes rest
  | .stopDelivery :: rest => acceptedBytes rest
  | .result _ :: rest => acceptedBytes rest

/-- The frame that operation `i` hands to `SEND` in state `s`, if it reaches a send (R156, R160, R164,
R181). -/
def frameToSend (i : Instr) (s : State) : Option (List Byte) :=
  match i with
  | .pttPress =>
    if s.halted = false ∧ s.pttState = .idle then some (createFrame controlType s.config.startMarker s).1 else none
  | .pttRelease =>
    if s.halted = false ∧ s.pttState = .transmitting then some (createFrame controlType stopMarker s).1 else none
  | .audioBuf b =>
    if s.halted = false ∧ s.pttState = .transmitting ∧ validBuffer b (expectedLen s.config) = true then
      match codecAnswer s b with
      | .ok p => some (createFrame audioType p s).1
      | .fail => none
    else none
  | .send f => some f
  | .encAudio _ => none
  | .encControl _ => none
  | .parse _ => none
  | .seqRead => none
  | .validate _ _ => none
  | .shutdown => none
  | .sndStats => none
  | .close => none
  | .report => none
  | .frameAudioCurrent _ _ _ _ _ => none
  | .frameTextCurrent _ _ _ _ _ => none
  | .frameControlCurrent _ _ _ _ _ => none
  | .frameDataCurrent _ _ _ _ _ => none
  | .frameAudioLegacy _ _ _ _ => none
  | .frameTextLegacy _ _ _ _ => none
  | .frameControlLegacy _ _ _ _ => none
  | .frameDataLegacy _ _ _ _ => none

/-- The payload of which operation `i` creates a frame in state `s`, if it creates one. -/
def payloadToFrame (i : Instr) (s : State) : Option (List Byte) :=
  match i with
  | .encAudio p => some p
  | .encControl p => some p
  | .pttPress => if s.halted = false ∧ s.pttState = .idle then some s.config.startMarker else none
  | .pttRelease => if s.halted = false ∧ s.pttState = .transmitting then some stopMarker else none
  | .audioBuf b =>
    if s.halted = false ∧ s.pttState = .transmitting ∧ validBuffer b (expectedLen s.config) = true then
      match codecAnswer s b with
      | .ok p => some p
      | .fail => none
    else none
  | .send _ => none
  | .parse _ => none
  | .seqRead => none
  | .validate _ _ => none
  | .shutdown => none
  | .sndStats => none
  | .close => none
  | .report => none
  | .frameAudioCurrent _ _ _ _ _ => none
  | .frameTextCurrent _ _ _ _ _ => none
  | .frameControlCurrent _ _ _ _ _ => none
  | .frameDataCurrent _ _ _ _ _ => none
  | .frameAudioLegacy _ _ _ _ => none
  | .frameTextLegacy _ _ _ _ => none
  | .frameControlLegacy _ _ _ _ => none
  | .frameDataLegacy _ _ _ _ => none

/-- A frame that operation `i` creates has a payload of at most 65535 bytes (R115, R166). -/
def PayloadFits (i : Instr) (s : State) : Prop := ∀ p, payloadToFrame i s = some p → p.length ≤ maxPayload

/-- The buffer of an `AUDIO_BUF` that is taken while transmitting and so reaches the validator (R164). -/
def bufferTaken (i : Instr) (s : State) (b : List Byte) : Prop :=
  i = .audioBuf b ∧ s.halted = false ∧ s.pttState = .transmitting

/-- A counter that `i` increments in state `s` is at its limit (R32, R33). Of a send that counts a packet:
`PACKETS_SENT`, `BYTES_SENT`, and for an audio frame `FRAMES_ENCODED` and `FRAMES_SENT`. Of a send that counts an
error: `ERRORS`, and for an audio frame `FRAMES_ENCODED`. Of a rejected buffer: `INVALID_FRAMES`. Of a buffer
the codec fails on: `ENCODING_ERRORS`. -/
def CounterAtLimit (i : Instr) (s : State) : Prop :=
  (∃ f n, frameToSend i s = some f ∧ PayloadFits i s ∧ s.transportOpen = true ∧
    transportAnswer s f = .ok n ∧ n ≤ f.length ∧
    (s.packetsSent = counterMax ∨ counterMax < s.bytesSent + n ∨
      ((∃ b, i = .audioBuf b) ∧ (s.framesEncoded = counterMax ∨ s.framesSent = counterMax)))) ∨
  (∃ f, frameToSend i s = some f ∧ PayloadFits i s ∧
    (s.transportOpen = false ∨ transportAnswer s f = .fail) ∧
    (s.errors = counterMax ∨ ((∃ b, i = .audioBuf b) ∧ s.framesEncoded = counterMax))) ∨
  (∃ b, bufferTaken i s b ∧ validBuffer b (expectedLen s.config) = false ∧ s.invalidFrames = counterMax) ∨
  (∃ b, bufferTaken i s b ∧ validBuffer b (expectedLen s.config) = true ∧ codecAnswer s b = .fail ∧
    s.encodingErrors = counterMax)

/-- The cases of R205 in which `i` is refused in state `s`, each with the refusal's name `r`. -/
def RefusalCase (i : Instr) (s : State) (r : Refusal) : Prop :=
  (r = .payloadTooLong ∧ (∀ b, i ≠ .audioBuf b) ∧ ¬ PayloadFits i s) ∨
  (r = .codecPacketTooLong ∧ (∃ b, i = .audioBuf b) ∧ ¬ PayloadFits i s) ∨
  (r = .transportOverAccept ∧ ∃ f n, frameToSend i s = some f ∧ PayloadFits i s ∧ s.transportOpen = true ∧
    transportAnswer s f = .ok n ∧ f.length < n) ∨
  (r = .counterOverflow ∧ CounterAtLimit i s)

/-- Every counter can take one more, and `BYTES_SENT` can take `n` more (R33). -/
def State.HasRoom (s : State) (n : Nat) : Prop :=
  s.framesEncoded < counterMax ∧ s.framesSent < counterMax ∧ s.invalidFrames < counterMax ∧
  s.encodingErrors < counterMax ∧ s.packetsSent < counterMax ∧ s.bytesSent + n ≤ counterMax ∧
  s.errors < counterMax

/-- The operation is admitted: none of the cases of R205 arises. A frame it creates has a payload of at
most 65535 bytes, and for the frame it sends the transport accepts no more bytes than it was given and the
counters have room. -/
def Admitted (i : Instr) (s : State) : Prop :=
  s.HasRoom 0 ∧
  PayloadFits i s ∧
  (∀ f, frameToSend i s = some f → s.HasRoom f.length ∧
    ∀ n, transportAnswer s f = .ok n → n ≤ f.length)

/-- The invariants of R37 (a) to (f), the counter bound of R33, and what `SHUTDOWN` leaves (R172). -/
structure State.Lawful (s : State) : Prop where
  /-- R37 (a). -/
  seqCountsFrames : s.seq = BitVec.ofNat 16 s.created
  /-- R37 (b). -/
  sentLeEncoded : s.framesSent ≤ s.framesEncoded
  /-- R37 (c). -/
  sendsAreCounted : s.packetsSent + s.errors = s.sends
  /-- R37 (d). -/
  bytesAreAccepted : s.bytesSent = acceptedBytes s.trace
  /-- R37 (e). -/
  indicatorShowsState : s.halted = false → (s.indicator = .on ↔ s.pttState = .transmitting)
  /-- R37 (f). -/
  neverOpened : s.config.transportInitOk = false → s.transportOpen = false ∧ s.packetsSent = 0 ∧ s.bytesSent = 0
  /-- R33. -/
  countersFit : s.CountersFit
  /-- R172: the transport is closed and the indicator off once the block is halted. -/
  haltedIsQuiet : s.halted = true → s.transportOpen = false ∧ s.indicator = .off

/-- The further invariants of R38 (g) to (i), and of R58 (b): the frames handed to the transport carry the
sequence numbers 1, 2, 3, … modulo 65536. -/
structure State.PipelineLawful (s : State) : Prop where
  /-- R38 (g). -/
  framesAreAccounted : s.created = s.framesEncoded + s.edges
  /-- R38 (h). -/
  sentLePackets : s.framesSent ≤ s.packetsSent
  /-- R38 (i). -/
  unsentLeErrors : s.framesEncoded ≤ s.framesSent + s.errors
  /-- R58 (b). -/
  sequencesAreConsecutive : ∀ k f, (askedFrames s.trace)[k]? = some f →
    sequenceField s.config f = (k + 1) % 65536
  /-- While the transport has been open, every frame created was handed to it. -/
  everyFrameIsAsked : s.transportOpen = true → (askedFrames s.trace).length = s.created

end Sys2Proof.Machine
end

