-- ==== Sys2Proof/WellFormed.lean ====
section
/-! DEFINITION. Which instructions have an encoding: an operand whose length fits the 24-bit length
field of a command packet (R98), an expected length that fits its 24 bits (R99), and a frame whose payload
has the declared length (R88). The caller's duty `len(P) <= 65535` (R115) is no matter of encoding: a
longer payload has a packet, and the meaning refuses it. -/

namespace Sys2Proof

/-- The operand length fits `be24(N)` (R98). -/
def operandFits (operand : List Byte) : Bool := decide (operand.length < 2 ^ 24)

/-- `be24(expectedLength) ++ B` can be written (R99). -/
def validateFits (expectedLength : Nat) (buffer : List Byte) : Bool :=
  decide (expectedLength < 2 ^ 24) && decide (buffer.length + 3 < 2 ^ 24)

/-- The payload of a frame has exactly the declared length (R88, R92). -/
def payloadMatches (length : BitVec 16) (payload : List Byte) : Bool :=
  decide (payload.length = length.toNat)

/-- The instruction has an encoding. -/
def Instr.wellFormed : Instr → Bool
  | .encAudio p => operandFits p
  | .encControl p => operandFits p
  | .parse d => operandFits d
  | .seqRead => true
  | .validate n b => validateFits n b
  | .pttPress => true
  | .pttRelease => true
  | .audioBuf b => operandFits b
  | .shutdown => true
  | .send f => operandFits f
  | .sndStats => true
  | .close => true
  | .report => true
  | .frameAudioCurrent _ _ _ n p => payloadMatches n p
  | .frameTextCurrent _ _ _ n p => payloadMatches n p
  | .frameControlCurrent _ _ _ n p => payloadMatches n p
  | .frameDataCurrent _ _ _ n p => payloadMatches n p
  | .frameAudioLegacy _ _ n p => payloadMatches n p
  | .frameTextLegacy _ _ n p => payloadMatches n p
  | .frameControlLegacy _ _ n p => payloadMatches n p
  | .frameDataLegacy _ _ n p => payloadMatches n p

end Sys2Proof
end

