-- ==== Sys2Proof/Certificates/Slice0/Obligations.lean ====
section
/-! DEFINITION. The statements for the provers. Each docstring names the rule of spec/ it formalises; the
spec's own inferences and decisions, and the model's choices, are said to be such. -/

open Sys2Proof Sys2Proof.Machine Host

/-! Reset and configuration. -/

/-- R231 with the spec's decisions D12 to D14 and D23: what a successful reset leaves in every register of
R20, for every configuration, and for the reset state of the model, whose configuration is free
(notes/assumptions/1.md). Nothing has been handed to the transport (R232). -/
def Obligations.ResetLeavesInitialRegisters : Prop :=
  (∀ c e codecInit audioInit s, construct c e codecInit audioInit = .ok s →
    s.registers =
      { seq := 0, pttState := .idle, indicator := .off, halted := false, framesEncoded := 0, framesSent := 0,
        invalidFrames := 0, encodingErrors := 0, packetsSent := 0, bytesSent := 0, errors := 0,
        transportOpen := c.transportInitOk, config := c } ∧
    askedFrames s.trace = []) ∧
  State.reset.registers =
    { seq := 0, pttState := .idle, indicator := .off, halted := false, framesEncoded := 0, framesSent := 0,
      invalidFrames := 0, encodingErrors := 0, packetsSent := 0, bytesSent := 0, errors := 0,
      transportOpen := Config.suppliedTransportInitOk, config := Config.supplied }

/-- R236 with the spec's decisions D19 and D28: construction succeeds exactly when the codec and the audio
backend initialize and `SAMPLE_RATE * FRAME_MS` is a multiple of 1000; otherwise it answers
`ConfigurationError` and there is no state. The sample rate, the frame duration and the channel count of every
configuration are positive, as R14 has them. -/
def Obligations.ConstructionSucceedsExactlyWhen : Prop :=
  ∀ c e codecInit audioInit,
    ((codecInit = true ∧ audioInit = true ∧ 1000 ∣ c.sampleRate.val * c.frameMs.val) →
      construct c e codecInit audioInit = .ok (State.initial c e)) ∧
    (¬ (codecInit = true ∧ audioInit = true ∧ 1000 ∣ c.sampleRate.val * c.frameMs.val) →
      construct c e codecInit audioInit = .error .configurationError)

/-- The model's form of the supplied configuration (notes/assumptions/1.md) is one that construction
accepts: the reset state is what construction with it answers. -/
def Obligations.ResetIsASuccessfulConstruction : Prop :=
  construct Config.supplied Config.suppliedEnvironment true true = .ok State.reset

/-- R148 with the spec's decision D19: for an accepted configuration the expected length is the same in
every order of evaluation, and 1000 times it is the product of the formula. It is never 0, because R14's rate,
duration and channel count are positive: "cannot arise from positive configuration values" (D18). -/
def Obligations.ExpectedLengthInEveryOrder : Prop :=
  ∀ c : Config, lengthIsWhole c = true →
    1000 * expectedLen c = c.sampleRate.val * c.frameMs.val * bytesPerSample * c.channels.val ∧
    expectedLen c = c.sampleRate.val * c.frameMs.val * bytesPerSample * c.channels.val / 1000 ∧
    expectedLen c = c.sampleRate.val * c.frameMs.val * bytesPerSample / 1000 * c.channels.val ∧
    0 < expectedLen c

/-! Encoding. -/

/-- Decoding what is presented for a well-formed instruction gives that instruction back, for all
twenty-one rows of the opcode table. That the eight frame rows are presented as bare frames with their layout
is the model's choice (notes/assumptions/5.md). -/
def Obligations.DecodeOfEncode : Prop :=
  ∀ i : Instr, i.wellFormed = true → decodeInput (encode i) = .ok i

/-- Whatever decodes to an instruction is that instruction's one encoding, and the instruction is
well-formed: no bit of an input is dropped or read in two ways. That a packet with bytes after its operand
decodes to nothing is the model's reading (notes/assumptions/6.md), and that a bare frame carries its layout and
has exactly the declared length is the model's choice (notes/assumptions/5.md). -/
def Obligations.EncodeOfDecode : Prop :=
  ∀ (x : Input) (i : Instr), decodeInput x = .ok i → encode i = x ∧ i.wellFormed = true

/-- Five packets of the spec's own command encoding (R98, R99, decision D3), one of each form, as
spec/95_test_vectors.md T70 to T74 write them out. -/
def Obligations.SpecPacketsDecode : Prop :=
  decodeInput (.command [0x00, 0x00, 0x00, 0x02, 0xAA, 0xBB]) = .ok (.encAudio [0xAA, 0xBB]) ∧
  decodeInput (.command [0x01, 0x00, 0x00, 0x09, 0x50, 0x54, 0x54, 0x5F, 0x53, 0x54, 0x41, 0x52, 0x54]) =
    .ok (.encControl defaultStartMarker) ∧
  decodeInput (.command [0x04, 0x00, 0x00, 0x07, 0x00, 0x00, 0x04, 0x00, 0x00, 0x00, 0x01]) =
    .ok (.validate 4 [0x00, 0x00, 0x00, 0x01]) ∧
  decodeInput (.command [0x08, 0x00, 0x00, 0x00]) = .ok .pttPress ∧
  decodeInput (.command [0x0A, 0x00, 0x00, 0x04, 0x01, 0x00, 0x02, 0x00]) =
    .ok (.audioBuf [0x01, 0x00, 0x02, 0x00])

/-- R100: a packet with a non-zero high nibble, a reserved code, an operand shorter than `N`, an operand
where none is taken, or a `VALIDATE` operand under three bytes decodes to nothing; presented, it changes no
register, touches no trace, and is answered `IllegalOp` (the spec's decision D27). That the answer is a next
state is the model's choice (notes/assumptions/7.md). -/
def Obligations.MalformedPacketsAreAnsweredIllegalOp : Prop :=
  ∀ (head hi mid lo : Byte) (operand : List Byte) (s : State) (l : Line) (rest : List Line),
    (16 ≤ head.toNat ∨ head = 0x05 ∨ head = 0x06 ∨ head = 0x07 ∨
      operand.length < fromBe24 hi mid lo ∨
      (head ∈ [0x03, 0x08, 0x09, 0x0B, 0x0D, 0x0E, 0x0F] ∧ fromBe24 hi mid lo ≠ 0) ∨
      (head = 0x04 ∧ fromBe24 hi mid lo < 3)) →
    s.script = l :: rest → l.input = .command (head :: hi :: mid :: lo :: operand) →
    (∃ r, decodeInput l.input = .error r) ∧
    step s = .next { s.take l rest with status := .illegalOp, result := none } ∧
    (s.take l rest).registers = s.registers

/-- The model's reading of "a wrong operand length" (U9; notes/assumptions/6.md): a packet of fewer than
four bytes, and one with bytes after its operand, spell no operation and are answered `IllegalOp`. -/
def Obligations.ShortAndSurplusPacketsAreAnsweredIllegalOp : Prop :=
  ∀ (bytes : List Byte) (s : State) (l : Line) (rest : List Line),
    (bytes.length < 4 ∨ ∃ head hi mid lo operand, bytes = head :: hi :: mid :: lo :: operand ∧
      fromBe24 hi mid lo < operand.length) →
    s.script = l :: rest → l.input = .command bytes →
    step s = .next { s.take l rest with status := .illegalOp, result := none }

/-- A step performs the operation that the next presented line spells (R25, R56), on the state in which
that line's presenter and assumed answers stand; with nothing presented it changes nothing. That the order of
presentation stands in the state is the model's choice (notes/assumptions/3.md). -/
def Obligations.StepRunsThePresentedOperation : Prop :=
  (∀ (s : State) (l : Line) (rest : List Line) (i : Instr), s.script = l :: rest →
    decodeInput l.input = .ok i → step s = exec i (s.take l rest)) ∧
  (∀ s : State, s.script = [] → step s = .next s)

/-- A word of the opcode table placed with `withFetchWord` is what the very next step runs, whatever was
to be presented after it. -/
def Obligations.PlacedWordRunsNext : Prop :=
  ∀ (s : State) (nbits w : Nat) (i : Instr), decodeTableWord nbits w = some i →
    step (s.withFetchWord nbits w) = exec i (s.take (tableLine nbits w) s.script)

/-! Frames. -/

/-- R110: `BuildHeader`, both variants, with its length. -/
def Obligations.BuildHeaderByVariant : Prop :=
  ∀ (c : Config) (t : Byte) (q : BitVec 16) (n : Nat),
    (c.variant = .current →
      buildHeader c t q n =
        be16 c.syncWord.toNat ++ stationBytes c ++ [t] ++ be16 q.toNat ++ be16 n ++ [0x00] ∧
      (buildHeader c t q n).length = 14) ∧
    (c.variant = .legacy →
      buildHeader c t q n = be16 c.legacyMagic.toNat ++ [t] ++ be16 q.toNat ++ be16 n ++ [0x00] ∧
      (buildHeader c t q n).length = 8)

/-- R111, the spec's own inference from R110: the header byte by byte. -/
def Obligations.HeaderByteByByte : Prop :=
  ∀ (c : Config) (t : Byte) (q : BitVec 16) (n : Nat), n ≤ maxPayload →
    (c.variant = .current →
      (buildHeader c t q n).map BitVec.toNat =
        [c.syncWord.toNat / 256, c.syncWord.toNat % 256,
         c.stationId.toNat / 256 ^ 5, c.stationId.toNat / 256 ^ 4 % 256, c.stationId.toNat / 256 ^ 3 % 256,
         c.stationId.toNat / 256 ^ 2 % 256, c.stationId.toNat / 256 % 256, c.stationId.toNat % 256,
         t.toNat, q.toNat / 256, q.toNat % 256, n / 256, n % 256, 0]) ∧
    (c.variant = .legacy →
      (buildHeader c t q n).map BitVec.toNat =
        [c.legacyMagic.toNat / 256, c.legacyMagic.toNat % 256,
         t.toNat, q.toNat / 256, q.toNat % 256, n / 256, n % 256, 0])

/-- R81, R82 and R97 against R112: the frame a create operation builds, byte by byte from `BuildHeader`,
is the frame whose header the opcode table writes as one big-endian integer, with the table's type code, the
counter's new value and the payload's length in its fields. The bare form it is compared with is the model's
(notes/assumptions/5.md). -/
def Obligations.CreatedFrameIsTheTablesFrame : Prop :=
  ∀ (p : List Byte) (s : State), p.length ≤ maxPayload →
    (s.config.variant = .current →
      Input.frame .current (createFrame audioType p s).1 =
        encode (.frameAudioCurrent s.config.syncWord s.config.stationId (s.seq + 1) (BitVec.ofNat 16 p.length) p) ∧
      Input.frame .current (createFrame controlType p s).1 =
        encode (.frameControlCurrent s.config.syncWord s.config.stationId (s.seq + 1) (BitVec.ofNat 16 p.length) p)) ∧
    (s.config.variant = .legacy →
      Input.frame .legacy (createFrame audioType p s).1 =
        encode (.frameAudioLegacy s.config.legacyMagic (s.seq + 1) (BitVec.ofNat 16 p.length) p) ∧
      Input.frame .legacy (createFrame controlType p s).1 =
        encode (.frameControlLegacy s.config.legacyMagic (s.seq + 1) (BitVec.ofNat 16 p.length) p))

/-- R138 (a), the spec's own inference: parsing a created frame gives back its type, its payload, the
payload's length, the counter's new value, and the station identifier in the current variant. -/
def Obligations.ParseOfCreatedFrame : Prop :=
  ∀ (t : Byte) (p : List Byte) (s : State), p.length ≤ maxPayload →
    parseFrame s.config (createFrame t p s).1 =
      some
        { stationId := if s.config.variant = .current then some s.config.stationId else none
          frameType := t
          sequence := (createFrame t p s).2.seq
          payloadLength := p.length
          payload := p }

/-- R131 to R133: parsing is absent exactly for data shorter than the header and for a marker that
differs, whatever the other bytes are. -/
def Obligations.ParseAbsentExactlyWhen : Prop :=
  ∀ (c : Config) (d : List Byte),
    parseFrame c d = none ↔ d.length < headerSize c ∨ d.take 2 ≠ marker c

/-- R131: `PARSE` completes on any data in any state. It returns absent and `ParseError`, or the record of
the fields at their offsets with the payload clamped to the bytes that are there, and `OK`; nothing else
changes. Its packet is code 0x2. -/
def Obligations.ParseCompletes : Prop :=
  ∀ (d : List Byte) (s : State),
    ((d.length < headerSize s.config ∨ d.take 2 ≠ marker s.config) →
      exec (.parse d) s = .next { s with status := .parseError, result := some .absent }) ∧
    ((headerSize s.config ≤ d.length ∧ d.take 2 = marker s.config) →
      exec (.parse d) s =
        .next
          { s with
            status := .ok
            result := some (.parsed
              { stationId :=
                  if s.config.variant = .current then some (BitVec.ofNat 48 (fromBe ((d.drop 2).take 6))) else none
                frameType := d.getD (typeOff s.config) 0
                sequence := BitVec.ofNat 16
                  ((d.getD (typeOff s.config + 1) 0).toNat * 256 + (d.getD (typeOff s.config + 2) 0).toNat)
                payloadLength :=
                  (d.getD (typeOff s.config + 3) 0).toNat * 256 + (d.getD (typeOff s.config + 4) 0).toNat
                payload := (d.drop (headerSize s.config)).take
                  (min ((d.getD (typeOff s.config + 3) 0).toNat * 256 + (d.getD (typeOff s.config + 4) 0).toNat)
                    (d.length - headerSize s.config)) }) }) ∧
    encode (.parse d) = .command (0x02 :: (be24 d.length ++ d))

/-- R138 (b), the spec's own inference: the result depends neither on the reserved byte nor on bytes after
the payload. -/
def Obligations.ParseIgnoresReservedAndTrailingBytes : Prop :=
  ∀ (c : Config) (d : List Byte),
    (∀ x : Byte, parseFrame c (d.set (headerSize c - 1) x) = parseFrame c d) ∧
    (headerSize c ≤ d.length →
      parseFrame c (d.take (headerSize c + min (lengthField c d) (d.length - headerSize c))) = parseFrame c d)

/-- R138 (c), the spec's own inference: data that parses still parses when more follows it, with the same
header fields, and the payload only grows. -/
def Obligations.ParseOfExtendedData : Prop :=
  ∀ (c : Config) (d x : List Byte) (f : Parsed), parseFrame c d = some f →
    ∃ g, parseFrame c (d ++ x) = some g ∧ g.stationId = f.stationId ∧ g.frameType = f.frameType ∧
      g.sequence = f.sequence ∧ g.payloadLength = f.payloadLength ∧ f.payload <+: g.payload

/-- The model's choice for the current-layout frame rows (notes/assumptions/5.md): a bare well-formed frame
with the machine's sync word completes in a current-variant machine, which parses it and returns the fields
written in it (R130, R131); nothing else changes. -/
def Obligations.CurrentFramesComplete : Prop :=
  ∀ (s : State) (d : BitVec 48) (q n : BitVec 16) (p : List Byte),
    s.config.variant = .current → p.length = n.toNat →
    exec (.frameAudioCurrent s.config.syncWord d q n p) s =
      .next { s with status := .ok, result := some (.parsed ⟨some d, 0x01, q, n.toNat, p⟩) } ∧
    exec (.frameTextCurrent s.config.syncWord d q n p) s =
      .next { s with status := .ok, result := some (.parsed ⟨some d, 0x02, q, n.toNat, p⟩) } ∧
    exec (.frameControlCurrent s.config.syncWord d q n p) s =
      .next { s with status := .ok, result := some (.parsed ⟨some d, 0x03, q, n.toNat, p⟩) } ∧
    exec (.frameDataCurrent s.config.syncWord d q n p) s =
      .next { s with status := .ok, result := some (.parsed ⟨some d, 0x04, q, n.toNat, p⟩) }

/-- The model's choice for the legacy-layout frame rows (notes/assumptions/5.md): a bare well-formed frame
with the machine's magic completes in a legacy-variant machine. -/
def Obligations.LegacyFramesComplete : Prop :=
  ∀ (s : State) (q n : BitVec 16) (p : List Byte),
    s.config.variant = .legacy → p.length = n.toNat →
    exec (.frameAudioLegacy s.config.legacyMagic q n p) s =
      .next { s with status := .ok, result := some (.parsed ⟨none, 0x01, q, n.toNat, p⟩) } ∧
    exec (.frameTextLegacy s.config.legacyMagic q n p) s =
      .next { s with status := .ok, result := some (.parsed ⟨none, 0x02, q, n.toNat, p⟩) } ∧
    exec (.frameControlLegacy s.config.legacyMagic q n p) s =
      .next { s with status := .ok, result := some (.parsed ⟨none, 0x03, q, n.toNat, p⟩) } ∧
    exec (.frameDataLegacy s.config.legacyMagic q n p) s =
      .next { s with status := .ok, result := some (.parsed ⟨none, 0x04, q, n.toNat, p⟩) }

/-- R93 and T27, the spec's own inference: a legacy machine whose magic equals a current frame's sync word
does not reject that frame, whichever of the four types it has. It reads the station identifier's first byte as
the type, the next two as the sequence and the next two as the length, and takes as payload the bytes from
offset 8 on, the real type byte first, clamped to the length it read. That a bare frame is parsed is the model's
choice (notes/assumptions/5.md). -/
def Obligations.LegacyMachineMisreadsCurrentFrame : Prop :=
  ∀ (s : State) (d : BitVec 48) (q n : BitVec 16) (p : List Byte), s.config.variant = .legacy →
    ∀ misread : Byte → Host.Outcome State Fault Refusal,
      (misread = fun t =>
        .next
          { s with
            status := .ok
            result := some (.parsed
              { stationId := none
                frameType := BitVec.ofNat 8 (d.toNat / 2 ^ 40)
                sequence := BitVec.ofNat 16 (d.toNat / 2 ^ 24)
                payloadLength := d.toNat / 2 ^ 8 % 65536
                payload := ([t] ++ be16 q.toNat ++ be16 n.toNat ++ [0x00] ++ p).take (d.toNat / 2 ^ 8 % 65536) }) }) →
      exec (.frameAudioCurrent s.config.legacyMagic d q n p) s = misread 0x01 ∧
      exec (.frameTextCurrent s.config.legacyMagic d q n p) s = misread 0x02 ∧
      exec (.frameControlCurrent s.config.legacyMagic d q n p) s = misread 0x03 ∧
      exec (.frameDataCurrent s.config.legacyMagic d q n p) s = misread 0x04

/-! Unit ENC. -/

/-- R113: `ENC_AUDIO` increments the counter, returns the Audio frame with the counter's new value in its
header, and ends with `OK`; no other register changes. Its packet is code 0x0. -/
def Obligations.EncAudioCompletes : Prop :=
  ∀ (p : List Byte) (s : State), p.length ≤ maxPayload →
    exec (.encAudio p) s =
      .next
        { s with
          seq := s.seq + 1
          created := s.created + 1
          hostDirect := true
          trace := s.trace ++ [.result (.frame (buildHeader s.config 0x01 (s.seq + 1) p.length ++ p))]
          status := .ok
          result := some (.frame (buildHeader s.config 0x01 (s.seq + 1) p.length ++ p)) } ∧
    encode (.encAudio p) = .command (0x00 :: (be24 p.length ++ p))

/-- R114: `ENC_CONTROL`, the same with type Control; its packet is code 0x1. -/
def Obligations.EncControlCompletes : Prop :=
  ∀ (p : List Byte) (s : State), p.length ≤ maxPayload →
    exec (.encControl p) s =
      .next
        { s with
          seq := s.seq + 1
          created := s.created + 1
          hostDirect := true
          trace := s.trace ++ [.result (.frame (buildHeader s.config 0x03 (s.seq + 1) p.length ++ p))]
          status := .ok
          result := some (.frame (buildHeader s.config 0x03 (s.seq + 1) p.length ++ p)) } ∧
    encode (.encControl p) = .command (0x01 :: (be24 p.length ++ p))

/-- R115 with the spec's decision D15: a create operation with a payload over 65535 bytes is refused, by
the caller's `ENC_AUDIO` and `ENC_CONTROL` and by a press whose start marker is that long. -/
def Obligations.OversizePayloadIsRefused : Prop :=
  ∀ (p : List Byte) (s : State), maxPayload < p.length →
    exec (.encAudio p) s = .refused .payloadTooLong ∧
    exec (.encControl p) s = .refused .payloadTooLong ∧
    (s.halted = false → s.pttState = .idle → s.config.startMarker = p →
      exec .pttPress s = .refused .payloadTooLong)

/-- R116: `SEQ_READ` returns the counter and changes no register; its packet is code 0x3. -/
def Obligations.SeqReadCompletes : Prop :=
  ∀ s : State,
    exec .seqRead s =
      .next { s with trace := s.trace ++ [.result (.sequence s.seq)], status := .ok, result := some (.sequence s.seq) } ∧
    encode .seqRead = .command [0x03, 0x00, 0x00, 0x00]

/-- R112: `CreateFrame` increments the counter, builds the header from its new value and appends the payload;
it writes nothing else (`created` is the model's ghost count). R117: the counter goes from `q` to
`(q + 1) mod 65536`, in particular from 65535 to 0, and the length field holds `len(P)`. -/
def Obligations.SequenceWrapsSilently : Prop :=
  ∀ (t : Byte) (p : List Byte) (s : State), p.length ≤ maxPayload →
    createFrame t p s =
      (buildHeader s.config t (s.seq + 1) p.length ++ p, { s with seq := s.seq + 1, created := s.created + 1 }) ∧
    (createFrame t p s).2.seq.toNat = (s.seq.toNat + 1) % 65536 ∧
    (s.seq = 0xFFFF → (createFrame t p s).2.seq = 0) ∧
    sequenceField s.config (createFrame t p s).1 = (s.seq.toNat + 1) % 65536 ∧
    lengthField s.config (createFrame t p s).1 = p.length

/-! Unit VAL. -/

/-- R145: a buffer is valid if and only if it has the expected length and some byte of it is not zero. -/
def Obligations.ValidExactlyWhen : Prop :=
  ∀ (b : List Byte) (n : Nat), validBuffer b n = true ↔ b.length = n ∧ ∃ x ∈ b, x ≠ 0x00

/-- R146: `VALIDATE` completes in any state, returns the verdict with status `OK` or `ValidationError`, and
changes no register, `INVALID_FRAMES` included; its packet is code 0x4. -/
def Obligations.ValidateCompletes : Prop :=
  ∀ (n : Nat) (b : List Byte) (s : State),
    exec (.validate n b) s =
      .next
        { s with
          trace := s.trace ++ [.result (.valid (validBuffer b n))]
          status := if validBuffer b n = true then .ok else .validationError
          result := some (.valid (validBuffer b n)) } ∧
    encode (.validate n b) = .command (0x04 :: (be24 (b.length + 3) ++ (be24 n ++ b)))

/-! Unit PTT. -/

/-- R156: `PTT_PRESS` taken in `Idle`. The transition is taken, the indicator driven on, and the start
frame created and sent; a failed or impossible send counts one error and changes nothing else of this. -/
def Obligations.PressCompletes : Prop :=
  ∀ (s : State) (f : List Byte), s.halted = false → s.pttState = .idle →
    s.config.startMarker.length ≤ maxPayload → s.CountersFit →
    f = buildHeader s.config 0x03 (s.seq + 1) s.config.startMarker.length ++ s.config.startMarker →
    (∀ n, s.transportOpen = true → transportAnswer s f = .ok n → n ≤ f.length →
      s.packetsSent < counterMax → s.bytesSent + n ≤ counterMax →
      exec .pttPress s =
        .next
          { s with
            pttState := .transmitting
            indicator := .on
            seq := s.seq + 1
            packetsSent := s.packetsSent + 1
            bytesSent := s.bytesSent + n
            status := .ok
            result := none
            transportAsked := s.transportAsked ++ [f]
            trace := s.trace ++ [.indicator .on, .transport f (.ok n)]
            created := s.created + 1
            sends := s.sends + 1
            edges := s.edges + 1 }) ∧
    (s.transportOpen = true → transportAnswer s f = .fail → s.errors < counterMax →
      exec .pttPress s =
        .next
          { s with
            pttState := .transmitting
            indicator := .on
            seq := s.seq + 1
            errors := s.errors + 1
            status := .transmitError
            result := none
            transportAsked := s.transportAsked ++ [f]
            trace := s.trace ++ [.indicator .on, .transport f .fail]
            created := s.created + 1
            sends := s.sends + 1
            edges := s.edges + 1 }) ∧
    (s.transportOpen = false → s.errors < counterMax →
      exec .pttPress s =
        .next
          { s with
            pttState := .transmitting
            indicator := .on
            seq := s.seq + 1
            errors := s.errors + 1
            status := .transmitError
            result := none
            trace := s.trace ++ [.indicator .on]
            created := s.created + 1
            sends := s.sends + 1
            edges := s.edges + 1 }) ∧
    encode .pttPress = .command [0x08, 0x00, 0x00, 0x00]

/-- R157 and R161, the spec's decision D7: a press while transmitting and a release while idle have no
effect; status `Ignored`. -/
def Obligations.RedundantEdgesAreIgnored : Prop :=
  ∀ s : State, s.halted = false →
    (s.pttState = .transmitting → exec .pttPress s = .next { s with status := .ignored, result := none }) ∧
    (s.pttState = .idle → exec .pttRelease s = .next { s with status := .ignored, result := none })

/-- R160: `PTT_RELEASE` taken in `Transmitting`. The transition is taken, the indicator driven off, the stop
frame created and sent, and then the report emitted, which already counts that send (the spec's decision
D29). -/
def Obligations.ReleaseCompletes : Prop :=
  ∀ (s : State) (f : List Byte), s.halted = false → s.pttState = .transmitting → s.CountersFit →
    f = buildHeader s.config 0x03 (s.seq + 1) 8 ++ stopMarker →
    (∀ n, s.transportOpen = true → transportAnswer s f = .ok n → n ≤ f.length →
      s.packetsSent < counterMax → s.bytesSent + n ≤ counterMax →
      exec .pttRelease s =
        .next
          { s with
            pttState := .idle
            indicator := .off
            seq := s.seq + 1
            packetsSent := s.packetsSent + 1
            bytesSent := s.bytesSent + n
            status := .ok
            result := none
            transportAsked := s.transportAsked ++ [f]
            trace := s.trace ++ [.indicator .off, .transport f (.ok n),
              .report
                { framesEncoded := s.framesEncoded, framesSent := s.framesSent, invalidFrames := s.invalidFrames,
                  encodingErrors := s.encodingErrors, packetsSent := s.packetsSent + 1,
                  bytesSent := s.bytesSent + n, errors := s.errors,
                  successRate := successRate s.framesSent s.framesEncoded }]
            created := s.created + 1
            sends := s.sends + 1
            edges := s.edges + 1 }) ∧
    (s.transportOpen = true → transportAnswer s f = .fail → s.errors < counterMax →
      exec .pttRelease s =
        .next
          { s with
            pttState := .idle
            indicator := .off
            seq := s.seq + 1
            errors := s.errors + 1
            status := .transmitError
            result := none
            transportAsked := s.transportAsked ++ [f]
            trace := s.trace ++ [.indicator .off, .transport f .fail,
              .report
                { framesEncoded := s.framesEncoded, framesSent := s.framesSent, invalidFrames := s.invalidFrames,
                  encodingErrors := s.encodingErrors, packetsSent := s.packetsSent, bytesSent := s.bytesSent,
                  errors := s.errors + 1, successRate := successRate s.framesSent s.framesEncoded }]
            created := s.created + 1
            sends := s.sends + 1
            edges := s.edges + 1 }) ∧
    (s.transportOpen = false → s.errors < counterMax →
      exec .pttRelease s =
        .next
          { s with
            pttState := .idle
            indicator := .off
            seq := s.seq + 1
            errors := s.errors + 1
            status := .transmitError
            result := none
            trace := s.trace ++ [.indicator .off,
              .report
                { framesEncoded := s.framesEncoded, framesSent := s.framesSent, invalidFrames := s.invalidFrames,
                  encodingErrors := s.encodingErrors, packetsSent := s.packetsSent, bytesSent := s.bytesSent,
                  errors := s.errors + 1, successRate := successRate s.framesSent s.framesEncoded }]
            created := s.created + 1
            sends := s.sends + 1
            edges := s.edges + 1 }) ∧
    encode .pttRelease = .command [0x09, 0x00, 0x00, 0x00]

/-- R165: a buffer delivered in `Idle` is discarded without counting, malformed or not: no register
changes, the codec is not asked, no frame is created, and AUD still receives `continue`. -/
def Obligations.IdleBuffersAreDiscarded : Prop :=
  ∀ (b : List Byte) (s : State), s.halted = false → s.pttState = .idle →
    exec (.audioBuf b) s =
      .next { s with status := .discarded, result := none, trace := s.trace ++ [.audioContinue] }

/-- R168 rows 3 and 4: while transmitting, a rejected buffer counts only in `INVALID_FRAMES` and the codec
is not asked; a buffer the codec fails on counts only in `ENCODING_ERRORS`; `SEQ` does not move. -/
def Obligations.DroppedBuffersAreCounted : Prop :=
  ∀ (b : List Byte) (s : State), s.halted = false → s.pttState = .transmitting → s.CountersFit →
    ((b.length ≠ expectedLen s.config ∨ ∀ x ∈ b, x = 0x00) → s.invalidFrames < counterMax →
      exec (.audioBuf b) s =
        .next
          { s with
            invalidFrames := s.invalidFrames + 1
            status := .validationError
            result := none
            trace := s.trace ++ [.audioContinue] }) ∧
    (validBuffer b (expectedLen s.config) = true → codecAnswer s b = .fail → s.encodingErrors < counterMax →
      exec (.audioBuf b) s =
        .next
          { s with
            encodingErrors := s.encodingErrors + 1
            status := .encodeError
            result := none
            codecAsked := s.codecAsked ++ [b]
            trace := s.trace ++ [.audioContinue] })

/-- R164, R168 rows 5 and 6: while transmitting, a valid buffer that the codec encodes becomes one Audio
frame, sent once; `FRAMES_ENCODED` and `SEQ` move whether or not the send succeeds. -/
def Obligations.EncodedBuffersAreSent : Prop :=
  ∀ (b pkt f : List Byte) (s : State), s.halted = false → s.pttState = .transmitting →
    validBuffer b (expectedLen s.config) = true → codecAnswer s b = .ok pkt → pkt.length ≤ maxPayload →
    s.CountersFit → s.framesEncoded < counterMax →
    f = buildHeader s.config 0x01 (s.seq + 1) pkt.length ++ pkt →
    (∀ n, s.transportOpen = true → transportAnswer s f = .ok n → n ≤ f.length → s.framesSent < counterMax →
      s.packetsSent < counterMax → s.bytesSent + n ≤ counterMax →
      exec (.audioBuf b) s =
        .next
          { s with
            seq := s.seq + 1
            framesEncoded := s.framesEncoded + 1
            framesSent := s.framesSent + 1
            packetsSent := s.packetsSent + 1
            bytesSent := s.bytesSent + n
            status := .ok
            result := none
            codecAsked := s.codecAsked ++ [b]
            transportAsked := s.transportAsked ++ [f]
            trace := s.trace ++ [.transport f (.ok n), .audioContinue]
            created := s.created + 1
            sends := s.sends + 1 }) ∧
    (s.transportOpen = true → transportAnswer s f = .fail → s.errors < counterMax →
      exec (.audioBuf b) s =
        .next
          { s with
            seq := s.seq + 1
            framesEncoded := s.framesEncoded + 1
            errors := s.errors + 1
            status := .transmitError
            result := none
            codecAsked := s.codecAsked ++ [b]
            transportAsked := s.transportAsked ++ [f]
            trace := s.trace ++ [.transport f .fail, .audioContinue]
            created := s.created + 1
            sends := s.sends + 1 }) ∧
    (s.transportOpen = false → s.errors < counterMax →
      exec (.audioBuf b) s =
        .next
          { s with
            seq := s.seq + 1
            framesEncoded := s.framesEncoded + 1
            errors := s.errors + 1
            status := .transmitError
            result := none
            codecAsked := s.codecAsked ++ [b]
            trace := s.trace ++ [.audioContinue]
            created := s.created + 1
            sends := s.sends + 1 })

/-- R167: `AUDIO_BUF` is total: in every state, for every buffer and every pair of answers within range, it
has a next state, its last emit is `continue`, and it returns nothing else. -/
def Obligations.AudioBufAlwaysContinues : Prop :=
  ∀ (b : List Byte) (s : State), Admitted (.audioBuf b) s →
    ∃ t, exec (.audioBuf b) s = .next t ∧ t.trace.getLast? = some .audioContinue ∧ t.result = none

/-- R170, the spec's decision D23: after `SHUTDOWN` a press, a release and a buffer do nothing but end with
status `Halted`; `AUDIO_BUF` still answers `continue`. -/
def Obligations.HaltedEventsDoNothing : Prop :=
  ∀ (b : List Byte) (s : State), s.halted = true →
    exec .pttPress s = .next { s with status := .halted, result := none } ∧
    exec .pttRelease s = .next { s with status := .halted, result := none } ∧
    exec (.audioBuf b) s =
      .next { s with status := .halted, result := none, trace := s.trace ++ [.audioContinue] }

/-- R171: the first `SHUTDOWN` stops delivery, closes the sender and turns the indicator off, in that
order, and halts (the bit is the spec's decision D23); a second one does nothing. `PTT_STATE`, `SEQ` and the counters are not written. Its packet
is code 0xB. -/
def Obligations.ShutdownCompletes : Prop :=
  ∀ s : State,
    (s.halted = false →
      exec .shutdown s =
        .next
          { s with
            transportOpen := false
            indicator := .off
            halted := true
            status := .ok
            result := none
            trace := s.trace ++ [.stopDelivery, .indicator .off] }) ∧
    (s.halted = true → exec .shutdown s = .next { s with status := .ok, result := none }) ∧
    encode .shutdown = .command [0x0B, 0x00, 0x00, 0x00]

/-! Units SND and STA. -/

/-- R181: `SEND` counts a packet and the bytes accepted, or one error; a closed transport is not asked. Its
packet is code 0xC. -/
def Obligations.SendCompletes : Prop :=
  ∀ (f : List Byte) (s : State), s.CountersFit →
    (s.transportOpen = false → s.errors < counterMax →
      exec (.send f) s =
        .next
          { s with
            errors := s.errors + 1
            status := .transmitError
            result := some (.sent false)
            sends := s.sends + 1
            hostDirect := true }) ∧
    (∀ n, s.transportOpen = true → transportAnswer s f = .ok n → n ≤ f.length → s.packetsSent < counterMax →
      s.bytesSent + n ≤ counterMax →
      exec (.send f) s =
        .next
          { s with
            packetsSent := s.packetsSent + 1
            bytesSent := s.bytesSent + n
            status := .ok
            result := some (.sent true)
            transportAsked := s.transportAsked ++ [f]
            trace := s.trace ++ [.transport f (.ok n)]
            sends := s.sends + 1
            hostDirect := true }) ∧
    (s.transportOpen = true → transportAnswer s f = .fail → s.errors < counterMax →
      exec (.send f) s =
        .next
          { s with
            errors := s.errors + 1
            status := .transmitError
            result := some (.sent false)
            transportAsked := s.transportAsked ++ [f]
            trace := s.trace ++ [.transport f .fail]
            sends := s.sends + 1
            hostDirect := true }) ∧
    encode (.send f) = .command (0x0C :: (be24 f.length ++ f))

/-- R182 and R33 with the spec's decisions D21 and D11, for every operation that sends (`SEND`, and `PTT_PRESS`,
`PTT_RELEASE` and `AUDIO_BUF` where they reach their send): a transport that answers more bytes than it was given
is refused, and so is a send after which `PACKETS_SENT`, `BYTES_SENT` or `ERRORS` would pass `2^64 - 1`. A frame
created on the way has a payload within R115. -/
def Obligations.OutOfRangeSendsAreRefused : Prop :=
  ∀ (i : Instr) (f : List Byte) (s : State), frameToSend i s = some f → PayloadFits i s →
    (∀ n, s.transportOpen = true → transportAnswer s f = .ok n → f.length < n →
      exec i s = .refused .transportOverAccept) ∧
    (∀ n, s.transportOpen = true → transportAnswer s f = .ok n → n ≤ f.length →
      (s.packetsSent = counterMax ∨ counterMax < s.bytesSent + n) → exec i s = .refused .counterOverflow) ∧
    (s.transportOpen = true → transportAnswer s f = .fail → s.errors = counterMax →
      exec i s = .refused .counterOverflow) ∧
    (s.transportOpen = false → s.errors = counterMax → exec i s = .refused .counterOverflow)

/-- R185 and R187: `SND_STATS` returns the three network-side counters and changes no register; `CLOSE`
closes the transport and nothing else, in any state. -/
def Obligations.SndStatsAndCloseComplete : Prop :=
  ∀ s : State,
    exec .sndStats s =
      .next
        { s with
          trace := s.trace ++ [.result (.senderStats s.packetsSent s.bytesSent s.errors)]
          status := .ok
          result := some (.senderStats s.packetsSent s.bytesSent s.errors) } ∧
    exec .close s = .next { s with transportOpen := false, status := .ok, result := none } ∧
    encode .sndStats = .command [0x0D, 0x00, 0x00, 0x00] ∧
    encode .close = .command [0x0E, 0x00, 0x00, 0x00]

/-- R190 with R189: `REPORT` returns the seven counters, with the success rate only when a frame was
encoded, and changes no register; its packet is code 0xF. -/
def Obligations.ReportCompletes : Prop :=
  ∀ (s : State) (snap : Snapshot),
    snap =
      { framesEncoded := s.framesEncoded, framesSent := s.framesSent, invalidFrames := s.invalidFrames,
        encodingErrors := s.encodingErrors, packetsSent := s.packetsSent, bytesSent := s.bytesSent,
        errors := s.errors,
        successRate := if 0 < s.framesEncoded then some ((s.framesSent : Rat) * 100 / s.framesEncoded) else none } →
    exec .report s =
      .next
        { s with
          trace := s.trace ++ [.result (.report snap)]
          status := .ok
          result := some (.report snap) } ∧
    encode .report = .command [0x0F, 0x00, 0x00, 0x00]

/-- R191 with the spec's decision D22: the rate is absent exactly when no frame was encoded; otherwise it is
the exact rational, between 0 and 100 when no more frames were sent than encoded, 100 exactly when all were
sent and 0 exactly when none was. -/
def Obligations.SuccessRateIsExact : Prop :=
  ∀ sent encoded : Nat,
    (encoded = 0 → successRate sent encoded = none) ∧
    (0 < encoded → ∃ r : Rat, successRate sent encoded = some r ∧ r * encoded = 100 * sent ∧ 0 ≤ r ∧
      (sent ≤ encoded → r ≤ 100) ∧ (r = 100 ↔ sent = encoded) ∧ (r = 0 ↔ sent = 0))

/-! The whole machine. -/

/-- R37 (a) to (f), which the spec infers from its rules, with R33 and R172: every step keeps them, from
every state that has them. -/
def Obligations.EveryStepKeepsLawful : Prop :=
  ∀ s t : State, s.Lawful → step s = .next t → t.Lawful

/-- The invariants of R37 hold at reset, and after every successful construction. -/
def Obligations.ResetIsLawful : Prop :=
  State.reset.Lawful ∧ ∀ (c : Config) (e : Nat), (State.initial c e).Lawful

/-- R38 (g) to (i) and R58 (b), which the spec infers from its rules: as long as HOST performs no direct
`ENC_AUDIO`, `ENC_CONTROL` or `SEND`, every step keeps them, so the frames handed to the transport carry the
sequence numbers 1, 2, 3, … with no gap and no repeat, whatever the oracles answer. -/
def Obligations.PipelineStepsKeepSequenceConsecutive : Prop :=
  ∀ s t : State, s.Lawful → s.PipelineLawful → step s = .next t → t.hostDirect = false → t.PipelineLawful

/-- The invariants of R38 hold at reset, and after every successful construction. -/
def Obligations.ResetIsPipelineLawful : Prop :=
  State.reset.PipelineLawful ∧ ∀ (c : Config) (e : Nat), (State.initial c e).PipelineLawful

/-- R61, R201 and R205: an admitted operation always has a next state. None waits, none faults, and no error
of the taxonomy stops the machine; only the cases of R205 are refused. -/
def Obligations.AdmittedOperationsComplete : Prop :=
  ∀ (i : Instr) (s : State), Admitted i s → ∃ t, exec i s = .next t

/-- R32 and R192: no operation decreases a counter. -/
def Obligations.CountersNeverDecrease : Prop :=
  ∀ s t : State, step s = .next t →
    s.framesEncoded ≤ t.framesEncoded ∧ s.framesSent ≤ t.framesSent ∧ s.invalidFrames ≤ t.invalidFrames ∧
    s.encodingErrors ≤ t.encodingErrors ∧ s.packetsSent ≤ t.packetsSent ∧ s.bytesSent ≤ t.bytesSent ∧
    s.errors ≤ t.errors

/-- R14, R36: no operation writes the configuration. -/
def Obligations.ConfigurationIsNeverWritten : Prop :=
  ∀ s t : State, step s = .next t → t.config = s.config

/-- R26, R163: `PTT_STATE` changes only by a press taken in `Idle` or a release taken in `Transmitting`. -/
def Obligations.OnlyEdgesMovePttState : Prop :=
  ∀ (i : Instr) (s t : State), exec i s = .next t → t.pttState ≠ s.pttState →
    s.halted = false ∧
    ((i = .pttPress ∧ s.pttState = .idle ∧ t.pttState = .transmitting) ∨
     (i = .pttRelease ∧ s.pttState = .transmitting ∧ t.pttState = .idle))

/-- R28: the indicator changes only to `on` by a press, or to `off` by a release or a shutdown. -/
def Obligations.OnlyEdgesAndShutdownDriveIndicator : Prop :=
  ∀ (i : Instr) (s t : State), exec i s = .next t → t.indicator ≠ s.indicator →
    (i = .pttPress ∧ t.indicator = .on) ∨ (i = .pttRelease ∧ t.indicator = .off) ∨
    (i = .shutdown ∧ t.indicator = .off)

/-- R23: the only write to `SEQ` is the increment of frame creation, which only the two create operations,
the two edges and an audio buffer perform, at most once each. -/
def Obligations.OnlyFrameCreationMovesSeq : Prop :=
  ∀ (i : Instr) (s t : State), exec i s = .next t →
    (t.seq = s.seq ∧ t.created = s.created) ∨
    (t.seq = s.seq + 1 ∧ t.created = s.created + 1 ∧
      ((∃ p, i = .encAudio p) ∨ (∃ p, i = .encControl p) ∨ i = .pttPress ∨ i = .pttRelease ∨
        ∃ b, i = .audioBuf b))

/-- R29, R35: only `SHUTDOWN` sets `HALTED` and nothing clears it; only `CLOSE` and `SHUTDOWN` close the
transport and nothing reopens it. -/
def Obligations.NothingReopensOrResumes : Prop :=
  ∀ (i : Instr) (s t : State), exec i s = .next t →
    (s.halted = true → t.halted = true) ∧ (t.halted ≠ s.halted → i = .shutdown) ∧
    (s.transportOpen = false → t.transportOpen = false) ∧
    (t.transportOpen ≠ s.transportOpen → i = .close ∨ i = .shutdown)

/-- R201 with R156 and R160: an operation that ends in a recoverable error leaves `HALTED` and
`TRANSPORT_OPEN` as they were. Unless it is an edge it leaves `PTT_STATE` and `INDICATOR` as they were too; an
edge whose send failed has taken its transition all the same. -/
def Obligations.ErrorsAreContained : Prop :=
  ∀ (i : Instr) (s t : State), exec i s = .next t →
    t.status ∈ [Status.validationError, Status.encodeError, Status.transmitError, Status.parseError] →
    t.halted = s.halted ∧ t.transportOpen = s.transportOpen ∧
    (i ≠ .pttPress → i ≠ .pttRelease → t.pttState = s.pttState ∧ t.indicator = s.indicator) ∧
    (i = .pttPress → s.pttState = .idle ∧ t.pttState = .transmitting ∧ t.indicator = .on) ∧
    (i = .pttRelease → s.pttState = .transmitting ∧ t.pttState = .idle ∧ t.indicator = .off)

/-- R52: `PARSE`, `VALIDATE`, `SEQ_READ`, `SND_STATS` and `REPORT` change no register, and performed in any
two states with the same registers they return the same result. -/
def Obligations.ReadsAreIdempotent : Prop :=
  ∀ (i : Instr) (s s' : State),
    ((∃ d, i = .parse d) ∨ (∃ n b, i = .validate n b) ∨ i = .seqRead ∨ i = .sndStats ∨ i = .report) →
    s'.registers = s.registers →
    ∃ t u, exec i s = .next t ∧ t.registers = s.registers ∧
      exec i s' = .next u ∧ u.registers = s.registers ∧ u.result = t.result ∧ u.status = t.status

/-- R215 with the spec's decision D33: no operation depends on which agent presents it. -/
def Obligations.PresenterHasNoInfluence : Prop :=
  ∀ (i : Instr) (s : State) (a : Agent),
    (∀ t, exec i s = .next t → exec i { s with presenter := a } = .next { t with presenter := a }) ∧
    (∀ r, exec i s = .refused r → exec i { s with presenter := a } = .refused r)

/-- R58 (c): in `Idle`, nothing but a press or a direct create operation creates a frame, and after any
operation but a press the machine is still in `Idle`. -/
def Obligations.IdleCreatesNoAudioFrame : Prop :=
  ∀ (i : Instr) (s t : State), exec i s = .next t → s.pttState = .idle → i ≠ .pttPress →
    t.pttState = .idle ∧
    ((∀ p, i ≠ .encAudio p) → (∀ p, i ≠ .encControl p) → t.created = s.created ∧ t.seq = s.seq)

/-- R166 and R182, for the answers that no presented line assumes: the codec's own packet is at most 65535
bytes long and the transport's own count at most the frame's length, whatever the free values are
(notes/assumptions/2.md). -/
def Obligations.FreeAnswersAreInRange : Prop :=
  ∀ (b f : List Byte) (s : State),
    (s.codecScript = none →
      codecAnswer s b = .fail ∨ ∃ p, codecAnswer s b = .ok p ∧ p.length ≤ maxPayload) ∧
    (s.transportScript = none →
      transportAnswer s f = .fail ∨ ∃ n, transportAnswer s f = .ok n ∧ n ≤ f.length)

/-- R205, which the spec marks as its decisions D11, D15 and D21: from a state whose counters are within their
limit, an operation is refused exactly in the cases of R205, each under its own name, and never otherwise. A
payload over 65535 bytes (R115), a codec packet over 65535 bytes (R166), a transport answer beyond the frame
(R182), and an increment that would pass `2^64 - 1` (R33), for each of the seven counters. -/
def Obligations.RefusedExactlyInTheCasesOfR205 : Prop :=
  ∀ (i : Instr) (s : State) (r : Refusal), s.CountersFit → (exec i s = .refused r ↔ RefusalCase i s r)
end

