-- ==== Sys2Proof/Laws/Bytes.lean ====
section
/-! SUPPORT. Lengths and round trips of the byte-order helpers, and reading bytes out of a concatenation. -/

namespace Sys2Proof.Machine

@[simp] theorem be16_length (v : Nat) : (be16 v).length = 2 := rfl

@[simp] theorem be24_length (v : Nat) : (be24 v).length = 3 := rfl

@[simp] theorem toBe_length (k v : Nat) : (toBe k v).length = k := by
  induction k generalizing v with
  | zero => rfl
  | succ k ih => simp [toBe, ih]

@[simp] theorem tableBytes_length (k w : Nat) : (tableBytes k w).length = k := by
  induction k generalizing w with
  | zero => rfl
  | succ k ih => simp [tableBytes, ih]

@[simp] theorem marker_length (c : Config) : (marker c).length = 2 := by
  unfold marker
  split <;> rfl

@[simp] theorem stationBytes_length (c : Config) : (stationBytes c).length = 6 := toBe_length 6 _

/-- Reading one more byte at the low end. -/
@[simp] theorem fromBe_append_byte (l : List Byte) (b : Byte) : fromBe (l ++ [b]) = fromBe l * 256 + b.toNat := by
  simp [fromBe]

@[simp] theorem fromBe_nil : fromBe [] = 0 := rfl

/-- A big-endian integer of `k` bytes is less than `256 ^ k`. -/
theorem fromBe_lt (l : List Byte) : fromBe l < 256 ^ l.length := by
  induction l using List.reverseRecOn with
  | nil => simp
  | append_singleton l b ih =>
    have hb := b.isLt
    simp only [fromBe_append_byte, List.length_append, List.length_singleton, pow_succ]
    omega

/-- Writing then reading `k` bytes keeps the value modulo `256 ^ k`. -/
theorem fromBe_toBe (k v : Nat) : fromBe (toBe k v) = v % 256 ^ k := by
  induction k generalizing v with
  | zero => simp [toBe, Nat.mod_one]
  | succ k ih =>
    rw [toBe, fromBe_append_byte, ih, BitVec.toNat_ofNat, pow_succ' 256 k, Nat.mod_mul]
    omega

/-- Reading then writing gives the bytes back. -/
theorem toBe_fromBe (l : List Byte) : toBe l.length (fromBe l) = l := by
  induction l using List.reverseRecOn with
  | nil => rfl
  | append_singleton l b ih =>
    have hb := b.isLt
    have hq : (fromBe l * 256 + b.toNat) / 256 = fromBe l := by omega
    have hr : BitVec.ofNat 8 (fromBe l * 256 + b.toNat) = b := by
      apply BitVec.eq_of_toNat_eq
      simp only [BitVec.toNat_ofNat]
      omega
    simp [toBe, hq, hr, ih]

/-- `from_be16` of the two bytes of `be16 v`. -/
theorem fromBe16_be16 (v : Nat) (h : v < 65536) :
    fromBe16 (BitVec.ofNat 8 (v / 256)) (BitVec.ofNat 8 (v % 256)) = v := by
  simp only [fromBe16, BitVec.toNat_ofNat]
  omega

/-- `from_be24` of the three bytes of `be24 v`. -/
theorem fromBe24_be24 (v : Nat) (h : v < 2 ^ 24) :
    fromBe24 (BitVec.ofNat 8 (v / 65536)) (BitVec.ofNat 8 (v / 256 % 256)) (BitVec.ofNat 8 (v % 256)) = v := by
  simp only [fromBe24, BitVec.toNat_ofNat]
  omega

/-- `from_be24` of three bytes fits 24 bits. -/
theorem fromBe24_lt (a b c : Byte) : fromBe24 a b c < 2 ^ 24 := by
  have ha := a.isLt
  have hb := b.isLt
  have hc := c.isLt
  simp only [fromBe24]
  omega

/-- `be24` of `from_be24` gives the bytes back. -/
theorem be24_fromBe24 (a b c : Byte) : be24 (fromBe24 a b c) = [a, b, c] := by
  have ha := a.isLt
  have hb := b.isLt
  have hc := c.isLt
  have h1 : BitVec.ofNat 8 (fromBe24 a b c / 65536) = a := by
    apply BitVec.eq_of_toNat_eq
    simp only [fromBe24, BitVec.toNat_ofNat]
    omega
  have h2 : BitVec.ofNat 8 (fromBe24 a b c / 256 % 256) = b := by
    apply BitVec.eq_of_toNat_eq
    simp only [fromBe24, BitVec.toNat_ofNat]
    omega
  have h3 : BitVec.ofNat 8 (fromBe24 a b c % 256) = c := by
    apply BitVec.eq_of_toNat_eq
    simp only [fromBe24, BitVec.toNat_ofNat]
    omega
  simp [be24, h1, h2, h3]

/-- A byte before the seam of a concatenation. -/
theorem byteAt_append_left {a : List Byte} (b : List Byte) {i : Nat} (h : i < a.length) :
    byteAt (a ++ b) i = byteAt a i := by
  simp [byteAt, List.getElem?_append_left h]

end Sys2Proof.Machine
end

