-- ==== Sys2Proof/Laws/Decode.lean ====
section
/-! SUPPORT. What the decoder's two forms can do, said once: how a packet and a frame header are read, and
what must have stood there when they decode. -/

namespace Sys2Proof

open Sys2Proof.Machine

/-- Reading a packet gives back the code and the operand it was written from. -/
theorem decodeInput_packet {code : Nat} {operand : List Byte} (hc : code < 16) (hn : operand.length < 2 ^ 24) :
    decodeInput (packet code operand) = decodeOperation code operand := by
  have head : (BitVec.ofNat 8 code).toNat = code := by
    simp only [BitVec.toNat_ofNat]
    omega
  simp only [packet, decodeInput, be24, List.cons_append, List.nil_append, decodeCommand, fromBe24_be24 _ hn, head]
  rw [if_neg (by omega), if_neg (by omega), if_neg (by omega)]

/-- A packet that decodes is the one written from its code and operand. -/
theorem decodeCommand_ok {bytes : List Byte} {i : Instr} (h : decodeCommand bytes = .ok i) :
    ∃ code operand, code < 16 ∧ operand.length < 2 ^ 24 ∧ decodeOperation code operand = .ok i ∧
      packet code operand = .command bytes := by
  match bytes, h with
  | head :: hi :: mid :: lo :: operand, h =>
    simp only [decodeCommand] at h
    split at h
    · cases h
    split at h
    · cases h
    split at h
    · cases h
    have hl : operand.length = fromBe24 hi mid lo := by omega
    refine ⟨head.toNat, operand, by omega, hl ▸ fromBe24_lt _ _ _, h, ?_⟩
    simp [packet, hl, be24_fromBe24]

/-- Reading a frame whose header was written from an integer gives that integer and the payload back. -/
theorem decodeFrame_header {layout : Variant} {h : Nat} (payload : List Byte)
    (hh : h < 256 ^ layoutHeaderSize layout) :
    decodeFrame layout (toBe (layoutHeaderSize layout) h ++ payload) = decodeHeader layout h payload := by
  unfold decodeFrame
  rw [if_pos (by simp), List.take_left' (toBe_length _ h), List.drop_left' (toBe_length _ h), fromBe_toBe,
    Nat.mod_eq_of_lt hh]

/-- A frame that decodes is a header written from an integer, and its payload. -/
theorem decodeFrame_ok {layout : Variant} {bytes : List Byte} {i : Instr}
    (h : decodeFrame layout bytes = .ok i) :
    ∃ n payload, n < 256 ^ layoutHeaderSize layout ∧ decodeHeader layout n payload = .ok i ∧
      bytes = toBe (layoutHeaderSize layout) n ++ payload := by
  unfold decodeFrame at h
  split at h
  · have hl : (bytes.take (layoutHeaderSize layout)).length = layoutHeaderSize layout := by
      rw [List.length_take]
      omega
    have hlt := fromBe_lt (bytes.take (layoutHeaderSize layout))
    have hb := toBe_fromBe (bytes.take (layoutHeaderSize layout))
    rw [hl] at hlt hb
    exact ⟨_, _, hlt, h, by rw [hb, List.take_append_drop]⟩
  · cases h

/-- A frame header that decodes has a zero reserved byte and declares its payload's length. -/
theorem decodeHeader_ok {layout : Variant} {h : Nat} {payload : List Byte} {i : Instr}
    (hd : decodeHeader layout h payload = .ok i) :
    h % 256 = 0 ∧ payload.length = h / 2 ^ 8 % 65536 ∧
      ((layout = .current ∧ decodeCurrentHeader h payload = .ok i) ∨
       (layout = .legacy ∧ decodeLegacyHeader h payload = .ok i)) := by
  unfold decodeHeader at hd
  split at hd
  · split at hd
    · refine ⟨‹_›, ‹_›, ?_⟩
      cases layout
      · exact .inr ⟨rfl, hd⟩
      · exact .inl ⟨rfl, hd⟩
    · cases hd
  · cases hd

/-- An operation marked "none" decodes from the empty operand alone. -/
theorem decodeNoOperand_ok {i j : Instr} {operand : List Byte} (h : decodeNoOperand i operand = .ok j) :
    j = i ∧ operand = [] := by
  unfold decodeNoOperand at h
  split at h
  · cases h
    exact ⟨rfl, List.isEmpty_iff.mp ‹_›⟩
  · cases h

/-- The operand of `VALIDATE` that decodes is the expected length and the buffer. -/
theorem decodeValidate_ok {operand : List Byte} {i : Instr} (h : decodeValidate operand = .ok i) :
    ∃ n buffer, n < 2 ^ 24 ∧ i = .validate n buffer ∧ operand = be24 n ++ buffer := by
  match operand, h with
  | hi :: mid :: lo :: buffer, h =>
    cases h
    exact ⟨_, _, fromBe24_lt hi mid lo, rfl, by rw [be24_fromBe24]; rfl⟩

end Sys2Proof
end

