-- ==== Sys2Proof/Laws/Frames.lean ====
section
/-! SUPPORT. A header read as one big-endian integer (R81, R82) written out byte by byte, and the fields read
back from a built header (R91). -/

namespace Sys2Proof.Machine

/-- Only the low `k` bytes of the value are written. -/
theorem toBe_mod (k v : Nat) : toBe k v = toBe k (v % 256 ^ k) := by
  have h := toBe_fromBe (toBe k v)
  rw [toBe_length, fromBe_toBe] at h
  exact h.symm

/-- A big-endian string splits at any byte. -/
theorem toBe_add (a b v : Nat) : toBe (a + b) v = toBe a (v / 256 ^ b) ++ toBe b v := by
  induction b generalizing v with
  | zero => simp [toBe]
  | succ b ih =>
    rw [← Nat.add_assoc, toBe, ih, toBe, List.append_assoc, Nat.div_div_eq_div_mul, Nat.pow_succ, Nat.mul_comm (256 ^ b)]

/-- `be16` is the two-byte big-endian string. -/
theorem be16_eq_toBe (v : Nat) : be16 v = toBe 2 v := by
  simp only [be16, toBe, List.nil_append, List.cons_append, List.cons.injEq, and_true, true_and]
  apply BitVec.eq_of_toNat_eq
  simp

/-- The 112-bit header of R81 in its fields. -/
theorem toBe_currentHeader (m : BitVec 16) (d : BitVec 48) (t : Nat) (q n : BitVec 16) (ht : t < 256) :
    toBe 14 (m.toNat * 2 ^ 96 + d.toNat * 2 ^ 48 + t * 2 ^ 40 + q.toNat * 2 ^ 24 + n.toNat * 2 ^ 8) =
      be16 m.toNat ++ toBe 6 d.toNat ++ [BitVec.ofNat 8 t] ++ be16 q.toNat ++ be16 n.toNat ++ [0x00] := by
  have h1 := m.isLt
  have h2 := d.isLt
  have h3 := q.isLt
  have h4 := n.isLt
  generalize hh : m.toNat * 2 ^ 96 + d.toNat * 2 ^ 48 + t * 2 ^ 40 + q.toNat * 2 ^ 24 + n.toNat * 2 ^ 8 = h
  rw [be16_eq_toBe, be16_eq_toBe, be16_eq_toBe, show toBe 14 h = toBe (2 + 6 + 1 + 2 + 2 + 1) h from rfl,
    toBe_add, toBe_add, toBe_add, toBe_add, toBe_add]
  congr 1
  · congr 1
    · congr 1
      · congr 1
        · congr 1
          · rw [toBe_mod]; congr 1; omega
          · rw [toBe_mod]; congr 1; omega
        · change _ = toBe 1 t
          rw [toBe_mod]
          congr 1
          omega
      · rw [toBe_mod]; congr 1; omega
    · rw [toBe_mod]; congr 1; omega
  · rw [toBe_mod, show h % 256 ^ 1 = 0 by omega]
    rfl

/-- The 64-bit header of R82 in its fields. -/
theorem toBe_legacyHeader (m : BitVec 16) (t : Nat) (q n : BitVec 16) (ht : t < 256) :
    toBe 8 (m.toNat * 2 ^ 48 + t * 2 ^ 40 + q.toNat * 2 ^ 24 + n.toNat * 2 ^ 8) =
      be16 m.toNat ++ [BitVec.ofNat 8 t] ++ be16 q.toNat ++ be16 n.toNat ++ [0x00] := by
  have h1 := m.isLt
  have h3 := q.isLt
  have h4 := n.isLt
  generalize hh : m.toNat * 2 ^ 48 + t * 2 ^ 40 + q.toNat * 2 ^ 24 + n.toNat * 2 ^ 8 = h
  rw [be16_eq_toBe, be16_eq_toBe, be16_eq_toBe, show toBe 8 h = toBe (2 + 1 + 2 + 2 + 1) h from rfl, toBe_add,
    toBe_add, toBe_add, toBe_add]
  congr 1
  · congr 1
    · congr 1
      · congr 1
        · rw [toBe_mod]; congr 1; omega
        · change _ = toBe 1 t
          rw [toBe_mod]
          congr 1
          omega
      · rw [toBe_mod]; congr 1; omega
    · rw [toBe_mod]; congr 1; omega
  · rw [toBe_mod, show h % 256 ^ 1 = 0 by omega]
    rfl

/-- The sequence field of a built header is the sequence it was built with. -/
theorem sequenceField_buildHeader (c : Config) (t : Byte) (q : BitVec 16) (n : Nat) (p : List Byte) :
    sequenceField c (buildHeader c t q n ++ p) = q.toNat := by
  have h : fromBe16 (BitVec.ofNat 8 (q.toNat / 256)) (BitVec.ofNat 8 (q.toNat % 256)) = q.toNat := fromBe16_be16 _ q.isLt
  cases hv : c.variant <;>
    simp [buildHeader, hv, be16, stationBytes, toBe, sequenceField, typeOff, byteAt, -BitVec.toNat_ofNat, h]

/-- The length field of a built header is the length it was built with. -/
theorem lengthField_buildHeader (c : Config) (t : Byte) (q : BitVec 16) (n : Nat) (p : List Byte) (hn : n < 65536) :
    lengthField c (buildHeader c t q n ++ p) = n := by
  have h : fromBe16 (BitVec.ofNat 8 (n / 256)) (BitVec.ofNat 8 (n % 256)) = n := fromBe16_be16 _ hn
  cases hv : c.variant <;>
    simp [buildHeader, hv, be16, stationBytes, toBe, lengthField, typeOff, byteAt, -BitVec.toNat_ofNat, h]

end Sys2Proof.Machine
end

