-- ==== Sys2Proof/Laws/State.lean ====
section
/-! SUPPORT. What each update of the state does to each field: one lemma per field per update, so that no
later proof unfolds a record update. The composite endings are rewritten to the updates they are made of. -/

namespace Sys2Proof.Machine

variable (s : State)

@[simp] theorem State.finishWith_eq (k : Status) (r : Result) :
    s.finishWith k r = (s.emit (.result r)).finish k (some r) := rfl
@[simp] theorem State.finishAudio_eq (k : Status) : s.finishAudio k = (s.emit .audioContinue).finish k none := rfl
@[simp] theorem State.rejectInput_eq : s.rejectInput = s.finish .illegalOp none := rfl

/-! `State.emit` -/

@[simp] theorem State.emit_seq (e : Event) : (s.emit e).seq = s.seq := rfl
@[simp] theorem State.emit_pttState (e : Event) : (s.emit e).pttState = s.pttState := rfl
@[simp] theorem State.emit_indicator (e : Event) : (s.emit e).indicator = s.indicator := rfl
@[simp] theorem State.emit_halted (e : Event) : (s.emit e).halted = s.halted := rfl
@[simp] theorem State.emit_framesEncoded (e : Event) : (s.emit e).framesEncoded = s.framesEncoded := rfl
@[simp] theorem State.emit_framesSent (e : Event) : (s.emit e).framesSent = s.framesSent := rfl
@[simp] theorem State.emit_invalidFrames (e : Event) : (s.emit e).invalidFrames = s.invalidFrames := rfl
@[simp] theorem State.emit_encodingErrors (e : Event) : (s.emit e).encodingErrors = s.encodingErrors := rfl
@[simp] theorem State.emit_packetsSent (e : Event) : (s.emit e).packetsSent = s.packetsSent := rfl
@[simp] theorem State.emit_bytesSent (e : Event) : (s.emit e).bytesSent = s.bytesSent := rfl
@[simp] theorem State.emit_errors (e : Event) : (s.emit e).errors = s.errors := rfl
@[simp] theorem State.emit_transportOpen (e : Event) : (s.emit e).transportOpen = s.transportOpen := rfl
@[simp] theorem State.emit_config (e : Event) : (s.emit e).config = s.config := rfl
@[simp] theorem State.emit_status (e : Event) : (s.emit e).status = s.status := rfl
@[simp] theorem State.emit_result (e : Event) : (s.emit e).result = s.result := rfl
@[simp] theorem State.emit_script (e : Event) : (s.emit e).script = s.script := rfl
@[simp] theorem State.emit_presenter (e : Event) : (s.emit e).presenter = s.presenter := rfl
@[simp] theorem State.emit_codecScript (e : Event) : (s.emit e).codecScript = s.codecScript := rfl
@[simp] theorem State.emit_transportScript (e : Event) : (s.emit e).transportScript = s.transportScript := rfl
@[simp] theorem State.emit_codecAsked (e : Event) : (s.emit e).codecAsked = s.codecAsked := rfl
@[simp] theorem State.emit_transportAsked (e : Event) : (s.emit e).transportAsked = s.transportAsked := rfl
@[simp] theorem State.emit_environment (e : Event) : (s.emit e).environment = s.environment := rfl
@[simp] theorem State.emit_trace (e : Event) : (s.emit e).trace = s.trace ++ [e] := rfl
@[simp] theorem State.emit_created (e : Event) : (s.emit e).created = s.created := rfl
@[simp] theorem State.emit_sends (e : Event) : (s.emit e).sends = s.sends := rfl
@[simp] theorem State.emit_edges (e : Event) : (s.emit e).edges = s.edges := rfl
@[simp] theorem State.emit_hostDirect (e : Event) : (s.emit e).hostDirect = s.hostDirect := rfl

/-! `State.finish` -/

@[simp] theorem State.finish_seq (k : Status) (r : Option Result) : (s.finish k r).seq = s.seq := rfl
@[simp] theorem State.finish_pttState (k : Status) (r : Option Result) : (s.finish k r).pttState = s.pttState := rfl
@[simp] theorem State.finish_indicator (k : Status) (r : Option Result) : (s.finish k r).indicator = s.indicator := rfl
@[simp] theorem State.finish_halted (k : Status) (r : Option Result) : (s.finish k r).halted = s.halted := rfl
@[simp] theorem State.finish_framesEncoded (k : Status) (r : Option Result) : (s.finish k r).framesEncoded = s.framesEncoded := rfl
@[simp] theorem State.finish_framesSent (k : Status) (r : Option Result) : (s.finish k r).framesSent = s.framesSent := rfl
@[simp] theorem State.finish_invalidFrames (k : Status) (r : Option Result) : (s.finish k r).invalidFrames = s.invalidFrames := rfl
@[simp] theorem State.finish_encodingErrors (k : Status) (r : Option Result) : (s.finish k r).encodingErrors = s.encodingErrors := rfl
@[simp] theorem State.finish_packetsSent (k : Status) (r : Option Result) : (s.finish k r).packetsSent = s.packetsSent := rfl
@[simp] theorem State.finish_bytesSent (k : Status) (r : Option Result) : (s.finish k r).bytesSent = s.bytesSent := rfl
@[simp] theorem State.finish_errors (k : Status) (r : Option Result) : (s.finish k r).errors = s.errors := rfl
@[simp] theorem State.finish_transportOpen (k : Status) (r : Option Result) : (s.finish k r).transportOpen = s.transportOpen := rfl
@[simp] theorem State.finish_config (k : Status) (r : Option Result) : (s.finish k r).config = s.config := rfl
@[simp] theorem State.finish_status (k : Status) (r : Option Result) : (s.finish k r).status = k := rfl
@[simp] theorem State.finish_result (k : Status) (r : Option Result) : (s.finish k r).result = r := rfl
@[simp] theorem State.finish_script (k : Status) (r : Option Result) : (s.finish k r).script = s.script := rfl
@[simp] theorem State.finish_presenter (k : Status) (r : Option Result) : (s.finish k r).presenter = s.presenter := rfl
@[simp] theorem State.finish_codecScript (k : Status) (r : Option Result) : (s.finish k r).codecScript = s.codecScript := rfl
@[simp] theorem State.finish_transportScript (k : Status) (r : Option Result) : (s.finish k r).transportScript = s.transportScript := rfl
@[simp] theorem State.finish_codecAsked (k : Status) (r : Option Result) : (s.finish k r).codecAsked = s.codecAsked := rfl
@[simp] theorem State.finish_transportAsked (k : Status) (r : Option Result) : (s.finish k r).transportAsked = s.transportAsked := rfl
@[simp] theorem State.finish_environment (k : Status) (r : Option Result) : (s.finish k r).environment = s.environment := rfl
@[simp] theorem State.finish_trace (k : Status) (r : Option Result) : (s.finish k r).trace = s.trace := rfl
@[simp] theorem State.finish_created (k : Status) (r : Option Result) : (s.finish k r).created = s.created := rfl
@[simp] theorem State.finish_sends (k : Status) (r : Option Result) : (s.finish k r).sends = s.sends := rfl
@[simp] theorem State.finish_edges (k : Status) (r : Option Result) : (s.finish k r).edges = s.edges := rfl
@[simp] theorem State.finish_hostDirect (k : Status) (r : Option Result) : (s.finish k r).hostDirect = s.hostDirect := rfl

/-! `State.noteCodec` -/

@[simp] theorem State.noteCodec_seq (b : List Byte) : (s.noteCodec b).seq = s.seq := rfl
@[simp] theorem State.noteCodec_pttState (b : List Byte) : (s.noteCodec b).pttState = s.pttState := rfl
@[simp] theorem State.noteCodec_indicator (b : List Byte) : (s.noteCodec b).indicator = s.indicator := rfl
@[simp] theorem State.noteCodec_halted (b : List Byte) : (s.noteCodec b).halted = s.halted := rfl
@[simp] theorem State.noteCodec_framesEncoded (b : List Byte) : (s.noteCodec b).framesEncoded = s.framesEncoded := rfl
@[simp] theorem State.noteCodec_framesSent (b : List Byte) : (s.noteCodec b).framesSent = s.framesSent := rfl
@[simp] theorem State.noteCodec_invalidFrames (b : List Byte) : (s.noteCodec b).invalidFrames = s.invalidFrames := rfl
@[simp] theorem State.noteCodec_encodingErrors (b : List Byte) : (s.noteCodec b).encodingErrors = s.encodingErrors := rfl
@[simp] theorem State.noteCodec_packetsSent (b : List Byte) : (s.noteCodec b).packetsSent = s.packetsSent := rfl
@[simp] theorem State.noteCodec_bytesSent (b : List Byte) : (s.noteCodec b).bytesSent = s.bytesSent := rfl
@[simp] theorem State.noteCodec_errors (b : List Byte) : (s.noteCodec b).errors = s.errors := rfl
@[simp] theorem State.noteCodec_transportOpen (b : List Byte) : (s.noteCodec b).transportOpen = s.transportOpen := rfl
@[simp] theorem State.noteCodec_config (b : List Byte) : (s.noteCodec b).config = s.config := rfl
@[simp] theorem State.noteCodec_status (b : List Byte) : (s.noteCodec b).status = s.status := rfl
@[simp] theorem State.noteCodec_result (b : List Byte) : (s.noteCodec b).result = s.result := rfl
@[simp] theorem State.noteCodec_script (b : List Byte) : (s.noteCodec b).script = s.script := rfl
@[simp] theorem State.noteCodec_presenter (b : List Byte) : (s.noteCodec b).presenter = s.presenter := rfl
@[simp] theorem State.noteCodec_codecScript (b : List Byte) : (s.noteCodec b).codecScript = s.codecScript := rfl
@[simp] theorem State.noteCodec_transportScript (b : List Byte) : (s.noteCodec b).transportScript = s.transportScript := rfl
@[simp] theorem State.noteCodec_codecAsked (b : List Byte) : (s.noteCodec b).codecAsked = s.codecAsked ++ [b] := rfl
@[simp] theorem State.noteCodec_transportAsked (b : List Byte) : (s.noteCodec b).transportAsked = s.transportAsked := rfl
@[simp] theorem State.noteCodec_environment (b : List Byte) : (s.noteCodec b).environment = s.environment := rfl
@[simp] theorem State.noteCodec_trace (b : List Byte) : (s.noteCodec b).trace = s.trace := rfl
@[simp] theorem State.noteCodec_created (b : List Byte) : (s.noteCodec b).created = s.created := rfl
@[simp] theorem State.noteCodec_sends (b : List Byte) : (s.noteCodec b).sends = s.sends := rfl
@[simp] theorem State.noteCodec_edges (b : List Byte) : (s.noteCodec b).edges = s.edges := rfl
@[simp] theorem State.noteCodec_hostDirect (b : List Byte) : (s.noteCodec b).hostDirect = s.hostDirect := rfl

/-! `State.noteTransport` -/

@[simp] theorem State.noteTransport_seq (f : List Byte) (a : TransportAnswer) : (s.noteTransport f a).seq = s.seq := rfl
@[simp] theorem State.noteTransport_pttState (f : List Byte) (a : TransportAnswer) : (s.noteTransport f a).pttState = s.pttState := rfl
@[simp] theorem State.noteTransport_indicator (f : List Byte) (a : TransportAnswer) : (s.noteTransport f a).indicator = s.indicator := rfl
@[simp] theorem State.noteTransport_halted (f : List Byte) (a : TransportAnswer) : (s.noteTransport f a).halted = s.halted := rfl
@[simp] theorem State.noteTransport_framesEncoded (f : List Byte) (a : TransportAnswer) : (s.noteTransport f a).framesEncoded = s.framesEncoded := rfl
@[simp] theorem State.noteTransport_framesSent (f : List Byte) (a : TransportAnswer) : (s.noteTransport f a).framesSent = s.framesSent := rfl
@[simp] theorem State.noteTransport_invalidFrames (f : List Byte) (a : TransportAnswer) : (s.noteTransport f a).invalidFrames = s.invalidFrames := rfl
@[simp] theorem State.noteTransport_encodingErrors (f : List Byte) (a : TransportAnswer) : (s.noteTransport f a).encodingErrors = s.encodingErrors := rfl
@[simp] theorem State.noteTransport_packetsSent (f : List Byte) (a : TransportAnswer) : (s.noteTransport f a).packetsSent = s.packetsSent := rfl
@[simp] theorem State.noteTransport_bytesSent (f : List Byte) (a : TransportAnswer) : (s.noteTransport f a).bytesSent = s.bytesSent := rfl
@[simp] theorem State.noteTransport_errors (f : List Byte) (a : TransportAnswer) : (s.noteTransport f a).errors = s.errors := rfl
@[simp] theorem State.noteTransport_transportOpen (f : List Byte) (a : TransportAnswer) : (s.noteTransport f a).transportOpen = s.transportOpen := rfl
@[simp] theorem State.noteTransport_config (f : List Byte) (a : TransportAnswer) : (s.noteTransport f a).config = s.config := rfl
@[simp] theorem State.noteTransport_status (f : List Byte) (a : TransportAnswer) : (s.noteTransport f a).status = s.status := rfl
@[simp] theorem State.noteTransport_result (f : List Byte) (a : TransportAnswer) : (s.noteTransport f a).result = s.result := rfl
@[simp] theorem State.noteTransport_script (f : List Byte) (a : TransportAnswer) : (s.noteTransport f a).script = s.script := rfl
@[simp] theorem State.noteTransport_presenter (f : List Byte) (a : TransportAnswer) : (s.noteTransport f a).presenter = s.presenter := rfl
@[simp] theorem State.noteTransport_codecScript (f : List Byte) (a : TransportAnswer) : (s.noteTransport f a).codecScript = s.codecScript := rfl
@[simp] theorem State.noteTransport_transportScript (f : List Byte) (a : TransportAnswer) : (s.noteTransport f a).transportScript = s.transportScript := rfl
@[simp] theorem State.noteTransport_codecAsked (f : List Byte) (a : TransportAnswer) : (s.noteTransport f a).codecAsked = s.codecAsked := rfl
@[simp] theorem State.noteTransport_transportAsked (f : List Byte) (a : TransportAnswer) : (s.noteTransport f a).transportAsked = s.transportAsked ++ [f] := rfl
@[simp] theorem State.noteTransport_environment (f : List Byte) (a : TransportAnswer) : (s.noteTransport f a).environment = s.environment := rfl
@[simp] theorem State.noteTransport_trace (f : List Byte) (a : TransportAnswer) : (s.noteTransport f a).trace = s.trace ++ [.transport f a] := rfl
@[simp] theorem State.noteTransport_created (f : List Byte) (a : TransportAnswer) : (s.noteTransport f a).created = s.created := rfl
@[simp] theorem State.noteTransport_sends (f : List Byte) (a : TransportAnswer) : (s.noteTransport f a).sends = s.sends := rfl
@[simp] theorem State.noteTransport_edges (f : List Byte) (a : TransportAnswer) : (s.noteTransport f a).edges = s.edges := rfl
@[simp] theorem State.noteTransport_hostDirect (f : List Byte) (a : TransportAnswer) : (s.noteTransport f a).hostDirect = s.hostDirect := rfl

/-! `State.bumpSeq` -/

@[simp] theorem State.bumpSeq_seq : s.bumpSeq.seq = s.seq + 1 := rfl
@[simp] theorem State.bumpSeq_pttState : s.bumpSeq.pttState = s.pttState := rfl
@[simp] theorem State.bumpSeq_indicator : s.bumpSeq.indicator = s.indicator := rfl
@[simp] theorem State.bumpSeq_halted : s.bumpSeq.halted = s.halted := rfl
@[simp] theorem State.bumpSeq_framesEncoded : s.bumpSeq.framesEncoded = s.framesEncoded := rfl
@[simp] theorem State.bumpSeq_framesSent : s.bumpSeq.framesSent = s.framesSent := rfl
@[simp] theorem State.bumpSeq_invalidFrames : s.bumpSeq.invalidFrames = s.invalidFrames := rfl
@[simp] theorem State.bumpSeq_encodingErrors : s.bumpSeq.encodingErrors = s.encodingErrors := rfl
@[simp] theorem State.bumpSeq_packetsSent : s.bumpSeq.packetsSent = s.packetsSent := rfl
@[simp] theorem State.bumpSeq_bytesSent : s.bumpSeq.bytesSent = s.bytesSent := rfl
@[simp] theorem State.bumpSeq_errors : s.bumpSeq.errors = s.errors := rfl
@[simp] theorem State.bumpSeq_transportOpen : s.bumpSeq.transportOpen = s.transportOpen := rfl
@[simp] theorem State.bumpSeq_config : s.bumpSeq.config = s.config := rfl
@[simp] theorem State.bumpSeq_status : s.bumpSeq.status = s.status := rfl
@[simp] theorem State.bumpSeq_result : s.bumpSeq.result = s.result := rfl
@[simp] theorem State.bumpSeq_script : s.bumpSeq.script = s.script := rfl
@[simp] theorem State.bumpSeq_presenter : s.bumpSeq.presenter = s.presenter := rfl
@[simp] theorem State.bumpSeq_codecScript : s.bumpSeq.codecScript = s.codecScript := rfl
@[simp] theorem State.bumpSeq_transportScript : s.bumpSeq.transportScript = s.transportScript := rfl
@[simp] theorem State.bumpSeq_codecAsked : s.bumpSeq.codecAsked = s.codecAsked := rfl
@[simp] theorem State.bumpSeq_transportAsked : s.bumpSeq.transportAsked = s.transportAsked := rfl
@[simp] theorem State.bumpSeq_environment : s.bumpSeq.environment = s.environment := rfl
@[simp] theorem State.bumpSeq_trace : s.bumpSeq.trace = s.trace := rfl
@[simp] theorem State.bumpSeq_created : s.bumpSeq.created = s.created + 1 := rfl
@[simp] theorem State.bumpSeq_sends : s.bumpSeq.sends = s.sends := rfl
@[simp] theorem State.bumpSeq_edges : s.bumpSeq.edges = s.edges := rfl
@[simp] theorem State.bumpSeq_hostDirect : s.bumpSeq.hostDirect = s.hostDirect := rfl

/-! `State.countSent` -/

@[simp] theorem State.countSent_seq (n : Nat) : (s.countSent n).seq = s.seq := rfl
@[simp] theorem State.countSent_pttState (n : Nat) : (s.countSent n).pttState = s.pttState := rfl
@[simp] theorem State.countSent_indicator (n : Nat) : (s.countSent n).indicator = s.indicator := rfl
@[simp] theorem State.countSent_halted (n : Nat) : (s.countSent n).halted = s.halted := rfl
@[simp] theorem State.countSent_framesEncoded (n : Nat) : (s.countSent n).framesEncoded = s.framesEncoded := rfl
@[simp] theorem State.countSent_framesSent (n : Nat) : (s.countSent n).framesSent = s.framesSent := rfl
@[simp] theorem State.countSent_invalidFrames (n : Nat) : (s.countSent n).invalidFrames = s.invalidFrames := rfl
@[simp] theorem State.countSent_encodingErrors (n : Nat) : (s.countSent n).encodingErrors = s.encodingErrors := rfl
@[simp] theorem State.countSent_packetsSent (n : Nat) : (s.countSent n).packetsSent = s.packetsSent + 1 := rfl
@[simp] theorem State.countSent_bytesSent (n : Nat) : (s.countSent n).bytesSent = s.bytesSent + n := rfl
@[simp] theorem State.countSent_errors (n : Nat) : (s.countSent n).errors = s.errors := rfl
@[simp] theorem State.countSent_transportOpen (n : Nat) : (s.countSent n).transportOpen = s.transportOpen := rfl
@[simp] theorem State.countSent_config (n : Nat) : (s.countSent n).config = s.config := rfl
@[simp] theorem State.countSent_status (n : Nat) : (s.countSent n).status = s.status := rfl
@[simp] theorem State.countSent_result (n : Nat) : (s.countSent n).result = s.result := rfl
@[simp] theorem State.countSent_script (n : Nat) : (s.countSent n).script = s.script := rfl
@[simp] theorem State.countSent_presenter (n : Nat) : (s.countSent n).presenter = s.presenter := rfl
@[simp] theorem State.countSent_codecScript (n : Nat) : (s.countSent n).codecScript = s.codecScript := rfl
@[simp] theorem State.countSent_transportScript (n : Nat) : (s.countSent n).transportScript = s.transportScript := rfl
@[simp] theorem State.countSent_codecAsked (n : Nat) : (s.countSent n).codecAsked = s.codecAsked := rfl
@[simp] theorem State.countSent_transportAsked (n : Nat) : (s.countSent n).transportAsked = s.transportAsked := rfl
@[simp] theorem State.countSent_environment (n : Nat) : (s.countSent n).environment = s.environment := rfl
@[simp] theorem State.countSent_trace (n : Nat) : (s.countSent n).trace = s.trace := rfl
@[simp] theorem State.countSent_created (n : Nat) : (s.countSent n).created = s.created := rfl
@[simp] theorem State.countSent_sends (n : Nat) : (s.countSent n).sends = s.sends + 1 := rfl
@[simp] theorem State.countSent_edges (n : Nat) : (s.countSent n).edges = s.edges := rfl
@[simp] theorem State.countSent_hostDirect (n : Nat) : (s.countSent n).hostDirect = s.hostDirect := rfl

/-! `State.countFailed` -/

@[simp] theorem State.countFailed_seq : s.countFailed.seq = s.seq := rfl
@[simp] theorem State.countFailed_pttState : s.countFailed.pttState = s.pttState := rfl
@[simp] theorem State.countFailed_indicator : s.countFailed.indicator = s.indicator := rfl
@[simp] theorem State.countFailed_halted : s.countFailed.halted = s.halted := rfl
@[simp] theorem State.countFailed_framesEncoded : s.countFailed.framesEncoded = s.framesEncoded := rfl
@[simp] theorem State.countFailed_framesSent : s.countFailed.framesSent = s.framesSent := rfl
@[simp] theorem State.countFailed_invalidFrames : s.countFailed.invalidFrames = s.invalidFrames := rfl
@[simp] theorem State.countFailed_encodingErrors : s.countFailed.encodingErrors = s.encodingErrors := rfl
@[simp] theorem State.countFailed_packetsSent : s.countFailed.packetsSent = s.packetsSent := rfl
@[simp] theorem State.countFailed_bytesSent : s.countFailed.bytesSent = s.bytesSent := rfl
@[simp] theorem State.countFailed_errors : s.countFailed.errors = s.errors + 1 := rfl
@[simp] theorem State.countFailed_transportOpen : s.countFailed.transportOpen = s.transportOpen := rfl
@[simp] theorem State.countFailed_config : s.countFailed.config = s.config := rfl
@[simp] theorem State.countFailed_status : s.countFailed.status = s.status := rfl
@[simp] theorem State.countFailed_result : s.countFailed.result = s.result := rfl
@[simp] theorem State.countFailed_script : s.countFailed.script = s.script := rfl
@[simp] theorem State.countFailed_presenter : s.countFailed.presenter = s.presenter := rfl
@[simp] theorem State.countFailed_codecScript : s.countFailed.codecScript = s.codecScript := rfl
@[simp] theorem State.countFailed_transportScript : s.countFailed.transportScript = s.transportScript := rfl
@[simp] theorem State.countFailed_codecAsked : s.countFailed.codecAsked = s.codecAsked := rfl
@[simp] theorem State.countFailed_transportAsked : s.countFailed.transportAsked = s.transportAsked := rfl
@[simp] theorem State.countFailed_environment : s.countFailed.environment = s.environment := rfl
@[simp] theorem State.countFailed_trace : s.countFailed.trace = s.trace := rfl
@[simp] theorem State.countFailed_created : s.countFailed.created = s.created := rfl
@[simp] theorem State.countFailed_sends : s.countFailed.sends = s.sends + 1 := rfl
@[simp] theorem State.countFailed_edges : s.countFailed.edges = s.edges := rfl
@[simp] theorem State.countFailed_hostDirect : s.countFailed.hostDirect = s.hostDirect := rfl

/-! `State.markDirect` -/

@[simp] theorem State.markDirect_seq : s.markDirect.seq = s.seq := rfl
@[simp] theorem State.markDirect_pttState : s.markDirect.pttState = s.pttState := rfl
@[simp] theorem State.markDirect_indicator : s.markDirect.indicator = s.indicator := rfl
@[simp] theorem State.markDirect_halted : s.markDirect.halted = s.halted := rfl
@[simp] theorem State.markDirect_framesEncoded : s.markDirect.framesEncoded = s.framesEncoded := rfl
@[simp] theorem State.markDirect_framesSent : s.markDirect.framesSent = s.framesSent := rfl
@[simp] theorem State.markDirect_invalidFrames : s.markDirect.invalidFrames = s.invalidFrames := rfl
@[simp] theorem State.markDirect_encodingErrors : s.markDirect.encodingErrors = s.encodingErrors := rfl
@[simp] theorem State.markDirect_packetsSent : s.markDirect.packetsSent = s.packetsSent := rfl
@[simp] theorem State.markDirect_bytesSent : s.markDirect.bytesSent = s.bytesSent := rfl
@[simp] theorem State.markDirect_errors : s.markDirect.errors = s.errors := rfl
@[simp] theorem State.markDirect_transportOpen : s.markDirect.transportOpen = s.transportOpen := rfl
@[simp] theorem State.markDirect_config : s.markDirect.config = s.config := rfl
@[simp] theorem State.markDirect_status : s.markDirect.status = s.status := rfl
@[simp] theorem State.markDirect_result : s.markDirect.result = s.result := rfl
@[simp] theorem State.markDirect_script : s.markDirect.script = s.script := rfl
@[simp] theorem State.markDirect_presenter : s.markDirect.presenter = s.presenter := rfl
@[simp] theorem State.markDirect_codecScript : s.markDirect.codecScript = s.codecScript := rfl
@[simp] theorem State.markDirect_transportScript : s.markDirect.transportScript = s.transportScript := rfl
@[simp] theorem State.markDirect_codecAsked : s.markDirect.codecAsked = s.codecAsked := rfl
@[simp] theorem State.markDirect_transportAsked : s.markDirect.transportAsked = s.transportAsked := rfl
@[simp] theorem State.markDirect_environment : s.markDirect.environment = s.environment := rfl
@[simp] theorem State.markDirect_trace : s.markDirect.trace = s.trace := rfl
@[simp] theorem State.markDirect_created : s.markDirect.created = s.created := rfl
@[simp] theorem State.markDirect_sends : s.markDirect.sends = s.sends := rfl
@[simp] theorem State.markDirect_edges : s.markDirect.edges = s.edges := rfl
@[simp] theorem State.markDirect_hostDirect : s.markDirect.hostDirect = true := rfl

/-! `State.closeTransport` -/

@[simp] theorem State.closeTransport_seq : s.closeTransport.seq = s.seq := rfl
@[simp] theorem State.closeTransport_pttState : s.closeTransport.pttState = s.pttState := rfl
@[simp] theorem State.closeTransport_indicator : s.closeTransport.indicator = s.indicator := rfl
@[simp] theorem State.closeTransport_halted : s.closeTransport.halted = s.halted := rfl
@[simp] theorem State.closeTransport_framesEncoded : s.closeTransport.framesEncoded = s.framesEncoded := rfl
@[simp] theorem State.closeTransport_framesSent : s.closeTransport.framesSent = s.framesSent := rfl
@[simp] theorem State.closeTransport_invalidFrames : s.closeTransport.invalidFrames = s.invalidFrames := rfl
@[simp] theorem State.closeTransport_encodingErrors : s.closeTransport.encodingErrors = s.encodingErrors := rfl
@[simp] theorem State.closeTransport_packetsSent : s.closeTransport.packetsSent = s.packetsSent := rfl
@[simp] theorem State.closeTransport_bytesSent : s.closeTransport.bytesSent = s.bytesSent := rfl
@[simp] theorem State.closeTransport_errors : s.closeTransport.errors = s.errors := rfl
@[simp] theorem State.closeTransport_transportOpen : s.closeTransport.transportOpen = false := rfl
@[simp] theorem State.closeTransport_config : s.closeTransport.config = s.config := rfl
@[simp] theorem State.closeTransport_status : s.closeTransport.status = s.status := rfl
@[simp] theorem State.closeTransport_result : s.closeTransport.result = s.result := rfl
@[simp] theorem State.closeTransport_script : s.closeTransport.script = s.script := rfl
@[simp] theorem State.closeTransport_presenter : s.closeTransport.presenter = s.presenter := rfl
@[simp] theorem State.closeTransport_codecScript : s.closeTransport.codecScript = s.codecScript := rfl
@[simp] theorem State.closeTransport_transportScript : s.closeTransport.transportScript = s.transportScript := rfl
@[simp] theorem State.closeTransport_codecAsked : s.closeTransport.codecAsked = s.codecAsked := rfl
@[simp] theorem State.closeTransport_transportAsked : s.closeTransport.transportAsked = s.transportAsked := rfl
@[simp] theorem State.closeTransport_environment : s.closeTransport.environment = s.environment := rfl
@[simp] theorem State.closeTransport_trace : s.closeTransport.trace = s.trace := rfl
@[simp] theorem State.closeTransport_created : s.closeTransport.created = s.created := rfl
@[simp] theorem State.closeTransport_sends : s.closeTransport.sends = s.sends := rfl
@[simp] theorem State.closeTransport_edges : s.closeTransport.edges = s.edges := rfl
@[simp] theorem State.closeTransport_hostDirect : s.closeTransport.hostDirect = s.hostDirect := rfl

/-! `State.takeEdge` -/

@[simp] theorem State.takeEdge_seq (p : PttState) (l : Level) : (s.takeEdge p l).seq = s.seq := rfl
@[simp] theorem State.takeEdge_pttState (p : PttState) (l : Level) : (s.takeEdge p l).pttState = p := rfl
@[simp] theorem State.takeEdge_indicator (p : PttState) (l : Level) : (s.takeEdge p l).indicator = l := rfl
@[simp] theorem State.takeEdge_halted (p : PttState) (l : Level) : (s.takeEdge p l).halted = s.halted := rfl
@[simp] theorem State.takeEdge_framesEncoded (p : PttState) (l : Level) : (s.takeEdge p l).framesEncoded = s.framesEncoded := rfl
@[simp] theorem State.takeEdge_framesSent (p : PttState) (l : Level) : (s.takeEdge p l).framesSent = s.framesSent := rfl
@[simp] theorem State.takeEdge_invalidFrames (p : PttState) (l : Level) : (s.takeEdge p l).invalidFrames = s.invalidFrames := rfl
@[simp] theorem State.takeEdge_encodingErrors (p : PttState) (l : Level) : (s.takeEdge p l).encodingErrors = s.encodingErrors := rfl
@[simp] theorem State.takeEdge_packetsSent (p : PttState) (l : Level) : (s.takeEdge p l).packetsSent = s.packetsSent := rfl
@[simp] theorem State.takeEdge_bytesSent (p : PttState) (l : Level) : (s.takeEdge p l).bytesSent = s.bytesSent := rfl
@[simp] theorem State.takeEdge_errors (p : PttState) (l : Level) : (s.takeEdge p l).errors = s.errors := rfl
@[simp] theorem State.takeEdge_transportOpen (p : PttState) (l : Level) : (s.takeEdge p l).transportOpen = s.transportOpen := rfl
@[simp] theorem State.takeEdge_config (p : PttState) (l : Level) : (s.takeEdge p l).config = s.config := rfl
@[simp] theorem State.takeEdge_status (p : PttState) (l : Level) : (s.takeEdge p l).status = s.status := rfl
@[simp] theorem State.takeEdge_result (p : PttState) (l : Level) : (s.takeEdge p l).result = s.result := rfl
@[simp] theorem State.takeEdge_script (p : PttState) (l : Level) : (s.takeEdge p l).script = s.script := rfl
@[simp] theorem State.takeEdge_presenter (p : PttState) (l : Level) : (s.takeEdge p l).presenter = s.presenter := rfl
@[simp] theorem State.takeEdge_codecScript (p : PttState) (l : Level) : (s.takeEdge p l).codecScript = s.codecScript := rfl
@[simp] theorem State.takeEdge_transportScript (p : PttState) (l : Level) : (s.takeEdge p l).transportScript = s.transportScript := rfl
@[simp] theorem State.takeEdge_codecAsked (p : PttState) (l : Level) : (s.takeEdge p l).codecAsked = s.codecAsked := rfl
@[simp] theorem State.takeEdge_transportAsked (p : PttState) (l : Level) : (s.takeEdge p l).transportAsked = s.transportAsked := rfl
@[simp] theorem State.takeEdge_environment (p : PttState) (l : Level) : (s.takeEdge p l).environment = s.environment := rfl
@[simp] theorem State.takeEdge_trace (p : PttState) (l : Level) : (s.takeEdge p l).trace = s.trace ++ [.indicator l] := rfl
@[simp] theorem State.takeEdge_created (p : PttState) (l : Level) : (s.takeEdge p l).created = s.created := rfl
@[simp] theorem State.takeEdge_sends (p : PttState) (l : Level) : (s.takeEdge p l).sends = s.sends := rfl
@[simp] theorem State.takeEdge_edges (p : PttState) (l : Level) : (s.takeEdge p l).edges = s.edges + 1 := rfl
@[simp] theorem State.takeEdge_hostDirect (p : PttState) (l : Level) : (s.takeEdge p l).hostDirect = s.hostDirect := rfl

/-! `State.countInvalid` -/

@[simp] theorem State.countInvalid_seq : s.countInvalid.seq = s.seq := rfl
@[simp] theorem State.countInvalid_pttState : s.countInvalid.pttState = s.pttState := rfl
@[simp] theorem State.countInvalid_indicator : s.countInvalid.indicator = s.indicator := rfl
@[simp] theorem State.countInvalid_halted : s.countInvalid.halted = s.halted := rfl
@[simp] theorem State.countInvalid_framesEncoded : s.countInvalid.framesEncoded = s.framesEncoded := rfl
@[simp] theorem State.countInvalid_framesSent : s.countInvalid.framesSent = s.framesSent := rfl
@[simp] theorem State.countInvalid_invalidFrames : s.countInvalid.invalidFrames = s.invalidFrames + 1 := rfl
@[simp] theorem State.countInvalid_encodingErrors : s.countInvalid.encodingErrors = s.encodingErrors := rfl
@[simp] theorem State.countInvalid_packetsSent : s.countInvalid.packetsSent = s.packetsSent := rfl
@[simp] theorem State.countInvalid_bytesSent : s.countInvalid.bytesSent = s.bytesSent := rfl
@[simp] theorem State.countInvalid_errors : s.countInvalid.errors = s.errors := rfl
@[simp] theorem State.countInvalid_transportOpen : s.countInvalid.transportOpen = s.transportOpen := rfl
@[simp] theorem State.countInvalid_config : s.countInvalid.config = s.config := rfl
@[simp] theorem State.countInvalid_status : s.countInvalid.status = s.status := rfl
@[simp] theorem State.countInvalid_result : s.countInvalid.result = s.result := rfl
@[simp] theorem State.countInvalid_script : s.countInvalid.script = s.script := rfl
@[simp] theorem State.countInvalid_presenter : s.countInvalid.presenter = s.presenter := rfl
@[simp] theorem State.countInvalid_codecScript : s.countInvalid.codecScript = s.codecScript := rfl
@[simp] theorem State.countInvalid_transportScript : s.countInvalid.transportScript = s.transportScript := rfl
@[simp] theorem State.countInvalid_codecAsked : s.countInvalid.codecAsked = s.codecAsked := rfl
@[simp] theorem State.countInvalid_transportAsked : s.countInvalid.transportAsked = s.transportAsked := rfl
@[simp] theorem State.countInvalid_environment : s.countInvalid.environment = s.environment := rfl
@[simp] theorem State.countInvalid_trace : s.countInvalid.trace = s.trace := rfl
@[simp] theorem State.countInvalid_created : s.countInvalid.created = s.created := rfl
@[simp] theorem State.countInvalid_sends : s.countInvalid.sends = s.sends := rfl
@[simp] theorem State.countInvalid_edges : s.countInvalid.edges = s.edges := rfl
@[simp] theorem State.countInvalid_hostDirect : s.countInvalid.hostDirect = s.hostDirect := rfl

/-! `State.countEncodingError` -/

@[simp] theorem State.countEncodingError_seq : s.countEncodingError.seq = s.seq := rfl
@[simp] theorem State.countEncodingError_pttState : s.countEncodingError.pttState = s.pttState := rfl
@[simp] theorem State.countEncodingError_indicator : s.countEncodingError.indicator = s.indicator := rfl
@[simp] theorem State.countEncodingError_halted : s.countEncodingError.halted = s.halted := rfl
@[simp] theorem State.countEncodingError_framesEncoded : s.countEncodingError.framesEncoded = s.framesEncoded := rfl
@[simp] theorem State.countEncodingError_framesSent : s.countEncodingError.framesSent = s.framesSent := rfl
@[simp] theorem State.countEncodingError_invalidFrames : s.countEncodingError.invalidFrames = s.invalidFrames := rfl
@[simp] theorem State.countEncodingError_encodingErrors : s.countEncodingError.encodingErrors = s.encodingErrors + 1 := rfl
@[simp] theorem State.countEncodingError_packetsSent : s.countEncodingError.packetsSent = s.packetsSent := rfl
@[simp] theorem State.countEncodingError_bytesSent : s.countEncodingError.bytesSent = s.bytesSent := rfl
@[simp] theorem State.countEncodingError_errors : s.countEncodingError.errors = s.errors := rfl
@[simp] theorem State.countEncodingError_transportOpen : s.countEncodingError.transportOpen = s.transportOpen := rfl
@[simp] theorem State.countEncodingError_config : s.countEncodingError.config = s.config := rfl
@[simp] theorem State.countEncodingError_status : s.countEncodingError.status = s.status := rfl
@[simp] theorem State.countEncodingError_result : s.countEncodingError.result = s.result := rfl
@[simp] theorem State.countEncodingError_script : s.countEncodingError.script = s.script := rfl
@[simp] theorem State.countEncodingError_presenter : s.countEncodingError.presenter = s.presenter := rfl
@[simp] theorem State.countEncodingError_codecScript : s.countEncodingError.codecScript = s.codecScript := rfl
@[simp] theorem State.countEncodingError_transportScript : s.countEncodingError.transportScript = s.transportScript := rfl
@[simp] theorem State.countEncodingError_codecAsked : s.countEncodingError.codecAsked = s.codecAsked := rfl
@[simp] theorem State.countEncodingError_transportAsked : s.countEncodingError.transportAsked = s.transportAsked := rfl
@[simp] theorem State.countEncodingError_environment : s.countEncodingError.environment = s.environment := rfl
@[simp] theorem State.countEncodingError_trace : s.countEncodingError.trace = s.trace := rfl
@[simp] theorem State.countEncodingError_created : s.countEncodingError.created = s.created := rfl
@[simp] theorem State.countEncodingError_sends : s.countEncodingError.sends = s.sends := rfl
@[simp] theorem State.countEncodingError_edges : s.countEncodingError.edges = s.edges := rfl
@[simp] theorem State.countEncodingError_hostDirect : s.countEncodingError.hostDirect = s.hostDirect := rfl

/-! `State.countEncoded` -/

@[simp] theorem State.countEncoded_seq : s.countEncoded.seq = s.seq := rfl
@[simp] theorem State.countEncoded_pttState : s.countEncoded.pttState = s.pttState := rfl
@[simp] theorem State.countEncoded_indicator : s.countEncoded.indicator = s.indicator := rfl
@[simp] theorem State.countEncoded_halted : s.countEncoded.halted = s.halted := rfl
@[simp] theorem State.countEncoded_framesEncoded : s.countEncoded.framesEncoded = s.framesEncoded + 1 := rfl
@[simp] theorem State.countEncoded_framesSent : s.countEncoded.framesSent = s.framesSent := rfl
@[simp] theorem State.countEncoded_invalidFrames : s.countEncoded.invalidFrames = s.invalidFrames := rfl
@[simp] theorem State.countEncoded_encodingErrors : s.countEncoded.encodingErrors = s.encodingErrors := rfl
@[simp] theorem State.countEncoded_packetsSent : s.countEncoded.packetsSent = s.packetsSent := rfl
@[simp] theorem State.countEncoded_bytesSent : s.countEncoded.bytesSent = s.bytesSent := rfl
@[simp] theorem State.countEncoded_errors : s.countEncoded.errors = s.errors := rfl
@[simp] theorem State.countEncoded_transportOpen : s.countEncoded.transportOpen = s.transportOpen := rfl
@[simp] theorem State.countEncoded_config : s.countEncoded.config = s.config := rfl
@[simp] theorem State.countEncoded_status : s.countEncoded.status = s.status := rfl
@[simp] theorem State.countEncoded_result : s.countEncoded.result = s.result := rfl
@[simp] theorem State.countEncoded_script : s.countEncoded.script = s.script := rfl
@[simp] theorem State.countEncoded_presenter : s.countEncoded.presenter = s.presenter := rfl
@[simp] theorem State.countEncoded_codecScript : s.countEncoded.codecScript = s.codecScript := rfl
@[simp] theorem State.countEncoded_transportScript : s.countEncoded.transportScript = s.transportScript := rfl
@[simp] theorem State.countEncoded_codecAsked : s.countEncoded.codecAsked = s.codecAsked := rfl
@[simp] theorem State.countEncoded_transportAsked : s.countEncoded.transportAsked = s.transportAsked := rfl
@[simp] theorem State.countEncoded_environment : s.countEncoded.environment = s.environment := rfl
@[simp] theorem State.countEncoded_trace : s.countEncoded.trace = s.trace := rfl
@[simp] theorem State.countEncoded_created : s.countEncoded.created = s.created := rfl
@[simp] theorem State.countEncoded_sends : s.countEncoded.sends = s.sends := rfl
@[simp] theorem State.countEncoded_edges : s.countEncoded.edges = s.edges := rfl
@[simp] theorem State.countEncoded_hostDirect : s.countEncoded.hostDirect = s.hostDirect := rfl

/-! `State.countFrameSent` -/

@[simp] theorem State.countFrameSent_seq (b : Bool) : (s.countFrameSent b).seq = s.seq := rfl
@[simp] theorem State.countFrameSent_pttState (b : Bool) : (s.countFrameSent b).pttState = s.pttState := rfl
@[simp] theorem State.countFrameSent_indicator (b : Bool) : (s.countFrameSent b).indicator = s.indicator := rfl
@[simp] theorem State.countFrameSent_halted (b : Bool) : (s.countFrameSent b).halted = s.halted := rfl
@[simp] theorem State.countFrameSent_framesEncoded (b : Bool) : (s.countFrameSent b).framesEncoded = s.framesEncoded := rfl
@[simp] theorem State.countFrameSent_framesSent (b : Bool) : (s.countFrameSent b).framesSent = s.framesSent + (if b then 1 else 0) := rfl
@[simp] theorem State.countFrameSent_invalidFrames (b : Bool) : (s.countFrameSent b).invalidFrames = s.invalidFrames := rfl
@[simp] theorem State.countFrameSent_encodingErrors (b : Bool) : (s.countFrameSent b).encodingErrors = s.encodingErrors := rfl
@[simp] theorem State.countFrameSent_packetsSent (b : Bool) : (s.countFrameSent b).packetsSent = s.packetsSent := rfl
@[simp] theorem State.countFrameSent_bytesSent (b : Bool) : (s.countFrameSent b).bytesSent = s.bytesSent := rfl
@[simp] theorem State.countFrameSent_errors (b : Bool) : (s.countFrameSent b).errors = s.errors := rfl
@[simp] theorem State.countFrameSent_transportOpen (b : Bool) : (s.countFrameSent b).transportOpen = s.transportOpen := rfl
@[simp] theorem State.countFrameSent_config (b : Bool) : (s.countFrameSent b).config = s.config := rfl
@[simp] theorem State.countFrameSent_status (b : Bool) : (s.countFrameSent b).status = s.status := rfl
@[simp] theorem State.countFrameSent_result (b : Bool) : (s.countFrameSent b).result = s.result := rfl
@[simp] theorem State.countFrameSent_script (b : Bool) : (s.countFrameSent b).script = s.script := rfl
@[simp] theorem State.countFrameSent_presenter (b : Bool) : (s.countFrameSent b).presenter = s.presenter := rfl
@[simp] theorem State.countFrameSent_codecScript (b : Bool) : (s.countFrameSent b).codecScript = s.codecScript := rfl
@[simp] theorem State.countFrameSent_transportScript (b : Bool) : (s.countFrameSent b).transportScript = s.transportScript := rfl
@[simp] theorem State.countFrameSent_codecAsked (b : Bool) : (s.countFrameSent b).codecAsked = s.codecAsked := rfl
@[simp] theorem State.countFrameSent_transportAsked (b : Bool) : (s.countFrameSent b).transportAsked = s.transportAsked := rfl
@[simp] theorem State.countFrameSent_environment (b : Bool) : (s.countFrameSent b).environment = s.environment := rfl
@[simp] theorem State.countFrameSent_trace (b : Bool) : (s.countFrameSent b).trace = s.trace := rfl
@[simp] theorem State.countFrameSent_created (b : Bool) : (s.countFrameSent b).created = s.created := rfl
@[simp] theorem State.countFrameSent_sends (b : Bool) : (s.countFrameSent b).sends = s.sends := rfl
@[simp] theorem State.countFrameSent_edges (b : Bool) : (s.countFrameSent b).edges = s.edges := rfl
@[simp] theorem State.countFrameSent_hostDirect (b : Bool) : (s.countFrameSent b).hostDirect = s.hostDirect := rfl

/-! `State.shutDown` -/

@[simp] theorem State.shutDown_seq : s.shutDown.seq = s.seq := rfl
@[simp] theorem State.shutDown_pttState : s.shutDown.pttState = s.pttState := rfl
@[simp] theorem State.shutDown_indicator : s.shutDown.indicator = .off := rfl
@[simp] theorem State.shutDown_halted : s.shutDown.halted = true := rfl
@[simp] theorem State.shutDown_framesEncoded : s.shutDown.framesEncoded = s.framesEncoded := rfl
@[simp] theorem State.shutDown_framesSent : s.shutDown.framesSent = s.framesSent := rfl
@[simp] theorem State.shutDown_invalidFrames : s.shutDown.invalidFrames = s.invalidFrames := rfl
@[simp] theorem State.shutDown_encodingErrors : s.shutDown.encodingErrors = s.encodingErrors := rfl
@[simp] theorem State.shutDown_packetsSent : s.shutDown.packetsSent = s.packetsSent := rfl
@[simp] theorem State.shutDown_bytesSent : s.shutDown.bytesSent = s.bytesSent := rfl
@[simp] theorem State.shutDown_errors : s.shutDown.errors = s.errors := rfl
@[simp] theorem State.shutDown_transportOpen : s.shutDown.transportOpen = false := rfl
@[simp] theorem State.shutDown_config : s.shutDown.config = s.config := rfl
@[simp] theorem State.shutDown_status : s.shutDown.status = s.status := rfl
@[simp] theorem State.shutDown_result : s.shutDown.result = s.result := rfl
@[simp] theorem State.shutDown_script : s.shutDown.script = s.script := rfl
@[simp] theorem State.shutDown_presenter : s.shutDown.presenter = s.presenter := rfl
@[simp] theorem State.shutDown_codecScript : s.shutDown.codecScript = s.codecScript := rfl
@[simp] theorem State.shutDown_transportScript : s.shutDown.transportScript = s.transportScript := rfl
@[simp] theorem State.shutDown_codecAsked : s.shutDown.codecAsked = s.codecAsked := rfl
@[simp] theorem State.shutDown_transportAsked : s.shutDown.transportAsked = s.transportAsked := rfl
@[simp] theorem State.shutDown_environment : s.shutDown.environment = s.environment := rfl
@[simp] theorem State.shutDown_trace : s.shutDown.trace = s.trace ++ [.stopDelivery, .indicator .off] := rfl
@[simp] theorem State.shutDown_created : s.shutDown.created = s.created := rfl
@[simp] theorem State.shutDown_sends : s.shutDown.sends = s.sends := rfl
@[simp] theorem State.shutDown_edges : s.shutDown.edges = s.edges := rfl
@[simp] theorem State.shutDown_hostDirect : s.shutDown.hostDirect = s.hostDirect := rfl

/-! `State.take` -/

@[simp] theorem State.take_seq (l : Line) (rest : List Line) : (s.take l rest).seq = s.seq := rfl
@[simp] theorem State.take_pttState (l : Line) (rest : List Line) : (s.take l rest).pttState = s.pttState := rfl
@[simp] theorem State.take_indicator (l : Line) (rest : List Line) : (s.take l rest).indicator = s.indicator := rfl
@[simp] theorem State.take_halted (l : Line) (rest : List Line) : (s.take l rest).halted = s.halted := rfl
@[simp] theorem State.take_framesEncoded (l : Line) (rest : List Line) : (s.take l rest).framesEncoded = s.framesEncoded := rfl
@[simp] theorem State.take_framesSent (l : Line) (rest : List Line) : (s.take l rest).framesSent = s.framesSent := rfl
@[simp] theorem State.take_invalidFrames (l : Line) (rest : List Line) : (s.take l rest).invalidFrames = s.invalidFrames := rfl
@[simp] theorem State.take_encodingErrors (l : Line) (rest : List Line) : (s.take l rest).encodingErrors = s.encodingErrors := rfl
@[simp] theorem State.take_packetsSent (l : Line) (rest : List Line) : (s.take l rest).packetsSent = s.packetsSent := rfl
@[simp] theorem State.take_bytesSent (l : Line) (rest : List Line) : (s.take l rest).bytesSent = s.bytesSent := rfl
@[simp] theorem State.take_errors (l : Line) (rest : List Line) : (s.take l rest).errors = s.errors := rfl
@[simp] theorem State.take_transportOpen (l : Line) (rest : List Line) : (s.take l rest).transportOpen = s.transportOpen := rfl
@[simp] theorem State.take_config (l : Line) (rest : List Line) : (s.take l rest).config = s.config := rfl
@[simp] theorem State.take_status (l : Line) (rest : List Line) : (s.take l rest).status = s.status := rfl
@[simp] theorem State.take_result (l : Line) (rest : List Line) : (s.take l rest).result = s.result := rfl
@[simp] theorem State.take_script (l : Line) (rest : List Line) : (s.take l rest).script = rest := rfl
@[simp] theorem State.take_presenter (l : Line) (rest : List Line) : (s.take l rest).presenter = l.agent := rfl
@[simp] theorem State.take_codecScript (l : Line) (rest : List Line) : (s.take l rest).codecScript = l.codec := rfl
@[simp] theorem State.take_transportScript (l : Line) (rest : List Line) : (s.take l rest).transportScript = l.transport := rfl
@[simp] theorem State.take_codecAsked (l : Line) (rest : List Line) : (s.take l rest).codecAsked = s.codecAsked := rfl
@[simp] theorem State.take_transportAsked (l : Line) (rest : List Line) : (s.take l rest).transportAsked = s.transportAsked := rfl
@[simp] theorem State.take_environment (l : Line) (rest : List Line) : (s.take l rest).environment = s.environment := rfl
@[simp] theorem State.take_trace (l : Line) (rest : List Line) : (s.take l rest).trace = s.trace := rfl
@[simp] theorem State.take_created (l : Line) (rest : List Line) : (s.take l rest).created = s.created := rfl
@[simp] theorem State.take_sends (l : Line) (rest : List Line) : (s.take l rest).sends = s.sends := rfl
@[simp] theorem State.take_edges (l : Line) (rest : List Line) : (s.take l rest).edges = s.edges := rfl
@[simp] theorem State.take_hostDirect (l : Line) (rest : List Line) : (s.take l rest).hostDirect = s.hostDirect := rfl

/-! `State.presentNext` -/

@[simp] theorem State.presentNext_seq (l : Line) : (s.presentNext l).seq = s.seq := rfl
@[simp] theorem State.presentNext_pttState (l : Line) : (s.presentNext l).pttState = s.pttState := rfl
@[simp] theorem State.presentNext_indicator (l : Line) : (s.presentNext l).indicator = s.indicator := rfl
@[simp] theorem State.presentNext_halted (l : Line) : (s.presentNext l).halted = s.halted := rfl
@[simp] theorem State.presentNext_framesEncoded (l : Line) : (s.presentNext l).framesEncoded = s.framesEncoded := rfl
@[simp] theorem State.presentNext_framesSent (l : Line) : (s.presentNext l).framesSent = s.framesSent := rfl
@[simp] theorem State.presentNext_invalidFrames (l : Line) : (s.presentNext l).invalidFrames = s.invalidFrames := rfl
@[simp] theorem State.presentNext_encodingErrors (l : Line) : (s.presentNext l).encodingErrors = s.encodingErrors := rfl
@[simp] theorem State.presentNext_packetsSent (l : Line) : (s.presentNext l).packetsSent = s.packetsSent := rfl
@[simp] theorem State.presentNext_bytesSent (l : Line) : (s.presentNext l).bytesSent = s.bytesSent := rfl
@[simp] theorem State.presentNext_errors (l : Line) : (s.presentNext l).errors = s.errors := rfl
@[simp] theorem State.presentNext_transportOpen (l : Line) : (s.presentNext l).transportOpen = s.transportOpen := rfl
@[simp] theorem State.presentNext_config (l : Line) : (s.presentNext l).config = s.config := rfl
@[simp] theorem State.presentNext_status (l : Line) : (s.presentNext l).status = s.status := rfl
@[simp] theorem State.presentNext_result (l : Line) : (s.presentNext l).result = s.result := rfl
@[simp] theorem State.presentNext_script (l : Line) : (s.presentNext l).script = l :: s.script := rfl
@[simp] theorem State.presentNext_presenter (l : Line) : (s.presentNext l).presenter = s.presenter := rfl
@[simp] theorem State.presentNext_codecScript (l : Line) : (s.presentNext l).codecScript = s.codecScript := rfl
@[simp] theorem State.presentNext_transportScript (l : Line) : (s.presentNext l).transportScript = s.transportScript := rfl
@[simp] theorem State.presentNext_codecAsked (l : Line) : (s.presentNext l).codecAsked = s.codecAsked := rfl
@[simp] theorem State.presentNext_transportAsked (l : Line) : (s.presentNext l).transportAsked = s.transportAsked := rfl
@[simp] theorem State.presentNext_environment (l : Line) : (s.presentNext l).environment = s.environment := rfl
@[simp] theorem State.presentNext_trace (l : Line) : (s.presentNext l).trace = s.trace := rfl
@[simp] theorem State.presentNext_created (l : Line) : (s.presentNext l).created = s.created := rfl
@[simp] theorem State.presentNext_sends (l : Line) : (s.presentNext l).sends = s.sends := rfl
@[simp] theorem State.presentNext_edges (l : Line) : (s.presentNext l).edges = s.edges := rfl
@[simp] theorem State.presentNext_hostDirect (l : Line) : (s.presentNext l).hostDirect = s.hostDirect := rfl

end Sys2Proof.Machine
end

