-- ==== Sys2Proof/Laws/Ops.lean ====
section
/-! SUPPORT. What each shared operation can do, said once: if it answers, then one of these cases holds.
Later proofs cite these and unfold no operation. -/

namespace Sys2Proof.Machine

open Host

/-- A committed state is the next state, and its counters fit. -/
theorem commit_next {s t : State} (h : commit s = .next t) : t = s ∧ s.CountersFit := by
  unfold commit at h
  split at h
  · cases h
    exact ⟨rfl, ‹_›⟩
  · cases h

/-- A state whose counters fit is committed. -/
theorem commit_of_fit {s : State} (h : s.CountersFit) : commit s = .next s := if_pos h

/-- `commit` never faults and refuses only for a counter. -/
theorem commit_refused {s : State} {r : Refusal} (h : commit s = .refused r) :
    r = .counterOverflow ∧ ¬ s.CountersFit := by
  unfold commit at h
  split at h
  · cases h
  · cases h
    exact ⟨rfl, ‹_›⟩

/-- An operation that settles went on from what the send returned. -/
theorem settle_next {x : Except Refusal (Bool × State)} {k : Bool → State → State} {t : State}
    (h : settle x k = .next t) : ∃ b u, x = .ok (b, u) ∧ t = k b u ∧ (k b u).CountersFit := by
  match x, h with
  | .ok (b, u), h => exact ⟨b, u, rfl, (commit_next h).1, (commit_next h).2⟩
  | .error _, h => cases h

/-- What a send that returns can do: closed, accepted, or failed. -/
theorem sendFrame_ok {f : List Byte} {s u : State} {b : Bool} (h : sendFrame f s = .ok (b, u)) :
    (s.transportOpen = false ∧ b = false ∧ u = s.countFailed) ∨
    (s.transportOpen = true ∧ b = true ∧ ∃ n, transportAnswer s f = .ok n ∧ n ≤ f.length ∧
      u = (s.noteTransport f (.ok n)).countSent n) ∨
    (s.transportOpen = true ∧ b = false ∧ transportAnswer s f = .fail ∧
      u = (s.noteTransport f .fail).countFailed) := by
  unfold sendFrame at h
  split at h
  · split at h
    · split at h
      · cases h
        exact .inr (.inl ⟨‹_›, rfl, _, ‹_›, ‹_›, rfl⟩)
      · cases h
    · cases h
      exact .inr (.inr ⟨‹_›, rfl, ‹_›, rfl⟩)
  · cases h
    exact .inl ⟨Bool.eq_false_of_not_eq_true ‹_›, rfl, rfl⟩

/-- What a create-and-send that returns can do. -/
theorem createAndSend_ok {t : Byte} {p : List Byte} {s u : State} {b : Bool}
    (h : createAndSend t p s = .ok (b, u)) :
    p.length ≤ maxPayload ∧ sendFrame (createFrame t p s).1 s.bumpSeq = .ok (b, u) := by
  unfold createAndSend at h
  split at h
  · exact ⟨‹_›, h⟩
  · cases h

/-- What a direct create that answers a next state can do. -/
theorem createDirect_next {t : Byte} {p : List Byte} {s u : State} (h : createDirect t p s = .next u) :
    p.length ≤ maxPayload ∧ u = s.bumpSeq.markDirect.finishWith .ok (.frame (createFrame t p s).1) := by
  unfold createDirect at h
  split at h
  · cases h
    exact ⟨‹_›, rfl⟩
  · cases h

/-- What sending a packet that the codec answered can do. -/
theorem transmitPacket_next {p : List Byte} {s t : State} (h : transmitPacket p s = .next t) :
    p.length ≤ maxPayload ∧ ∃ b u, createAndSend audioType p s.countEncoded = .ok (b, u) ∧
      t = (u.countFrameSent b).finishAudio (sendStatus b) ∧ t.CountersFit := by
  unfold transmitPacket at h
  split at h
  · obtain ⟨b, u, hx, rfl, hf⟩ := settle_next h
    exact ⟨‹_›, b, u, hx, rfl, hf⟩
  · cases h

/-- What a buffer taken while transmitting can do: rejected, not encoded, or sent. -/
theorem processBuffer_next {b : List Byte} {s t : State} (h : processBuffer b s = .next t) :
    (validBuffer b (expectedLen s.config) = false ∧ t = s.countInvalid.finishAudio .validationError ∧
      t.CountersFit) ∨
    (validBuffer b (expectedLen s.config) = true ∧ codecAnswer s b = .fail ∧
      t = (s.noteCodec b).countEncodingError.finishAudio .encodeError ∧ t.CountersFit) ∨
    (validBuffer b (expectedLen s.config) = true ∧ ∃ p, codecAnswer s b = .ok p ∧
      transmitPacket p (s.noteCodec b) = .next t) := by
  unfold processBuffer at h
  split at h
  · split at h
    · exact .inr (.inr ⟨‹_›, _, ‹_›, h⟩)
    · obtain ⟨rfl, hf⟩ := commit_next h
      exact .inr (.inl ⟨‹_›, ‹_›, rfl, hf⟩)
  · obtain ⟨rfl, hf⟩ := commit_next h
    exact .inl ⟨Bool.eq_false_of_not_eq_true ‹_›, rfl, hf⟩

/-- What `PTT_PRESS` can do. -/
theorem execPttPress_next {s t : State} (h : execPttPress s = .next t) :
    (s.halted = true ∧ t = s.finish .halted none) ∨
    (s.halted = false ∧ s.pttState = .transmitting ∧ t = s.finish .ignored none) ∨
    (s.halted = false ∧ s.pttState = .idle ∧ ∃ b u,
      createAndSend controlType s.config.startMarker (s.takeEdge .transmitting .on) = .ok (b, u) ∧
      t = u.finish (sendStatus b) none ∧ t.CountersFit) := by
  unfold execPttPress at h
  split at h
  · cases h
    exact .inl ⟨‹_›, rfl⟩
  · have hh : s.halted = false := Bool.eq_false_of_not_eq_true ‹_›
    split at h
    · cases h
      exact .inr (.inl ⟨hh, ‹_›, rfl⟩)
    · obtain ⟨b, u, hx, rfl, hf⟩ := settle_next h
      exact .inr (.inr ⟨hh, ‹_›, b, u, hx, rfl, hf⟩)

/-- What `PTT_RELEASE` can do. -/
theorem execPttRelease_next {s t : State} (h : execPttRelease s = .next t) :
    (s.halted = true ∧ t = s.finish .halted none) ∨
    (s.halted = false ∧ s.pttState = .idle ∧ t = s.finish .ignored none) ∨
    (s.halted = false ∧ s.pttState = .transmitting ∧ ∃ b u,
      createAndSend controlType stopMarker (s.takeEdge .idle .off) = .ok (b, u) ∧
      t = (u.emit (.report u.snapshot)).finish (sendStatus b) none ∧ t.CountersFit) := by
  unfold execPttRelease at h
  split at h
  · cases h
    exact .inl ⟨‹_›, rfl⟩
  · have hh : s.halted = false := Bool.eq_false_of_not_eq_true ‹_›
    split at h
    · cases h
      exact .inr (.inl ⟨hh, ‹_›, rfl⟩)
    · obtain ⟨b, u, hx, rfl, hf⟩ := settle_next h
      exact .inr (.inr ⟨hh, ‹_›, b, u, hx, rfl, hf⟩)

/-- What `AUDIO_BUF` can do. -/
theorem execAudioBuf_next {b : List Byte} {s t : State} (h : execAudioBuf b s = .next t) :
    (s.halted = true ∧ t = s.finishAudio .halted) ∨
    (s.halted = false ∧ s.pttState = .idle ∧ t = s.finishAudio .discarded) ∨
    (s.halted = false ∧ s.pttState = .transmitting ∧ processBuffer b s = .next t) := by
  unfold execAudioBuf at h
  split at h
  · cases h
    exact .inl ⟨‹_›, rfl⟩
  · have hh : s.halted = false := Bool.eq_false_of_not_eq_true ‹_›
    split at h
    · cases h
      exact .inr (.inl ⟨hh, ‹_›, rfl⟩)
    · exact .inr (.inr ⟨hh, ‹_›, h⟩)

/-- What a direct `SEND` can do. -/
theorem execSend_next {f : List Byte} {s t : State} (h : execSend f s = .next t) :
    ∃ b u, sendFrame f s.markDirect = .ok (b, u) ∧ t = u.finish (sendStatus b) (some (.sent b)) ∧
      t.CountersFit := by
  obtain ⟨b, u, hx, rfl, hf⟩ := settle_next h
  exact ⟨b, u, hx, rfl, hf⟩

/-- What `SHUTDOWN` can do. -/
theorem execShutdown_next {s t : State} (h : execShutdown s = .next t) :
    (s.halted = true ∧ t = s.finish .ok none) ∨ (s.halted = false ∧ t = s.shutDown.finish .ok none) := by
  unfold execShutdown at h
  split at h
  · cases h
    exact .inl ⟨‹_›, rfl⟩
  · cases h
    exact .inr ⟨Bool.eq_false_of_not_eq_true ‹_›, rfl⟩

/-- What parsing can do. -/
theorem parseData_next {d : List Byte} {s t : State} (h : parseData d s = .next t) :
    t = s.finish (parseStatus (parseFrame s.config d)) (some (parseResult (parseFrame s.config d))) := by
  cases h
  rfl

/-- What a step can do: nothing is presented, the input spells nothing, or the operation it spells is
performed. -/
theorem step_next {s t : State} (h : step s = .next t) :
    (s.script = [] ∧ t = s) ∨
    (∃ l rest, s.script = l :: rest ∧ (∃ r, decodeInput l.input = .error r) ∧ t = (s.take l rest).rejectInput) ∨
    (∃ l rest i, s.script = l :: rest ∧ decodeInput l.input = .ok i ∧ exec i (s.take l rest) = .next t) := by
  unfold step at h
  split at h
  · cases h
    exact .inl ⟨‹_›, rfl⟩
  · split at h
    · exact .inr (.inr ⟨_, _, _, ‹_›, ‹_›, h⟩)
    · cases h
      exact .inr (.inl ⟨_, _, ‹_›, ⟨_, ‹_›⟩, rfl⟩)

/-- No operation faults: the fault type has no constructor. -/
theorem exec_no_fault (i : Instr) (s : State) (r : Fault) : exec i s ≠ .fault r := nomatch r

end Sys2Proof.Machine
end

