-- ==== Sys2Proof/Laws/PerInstr.lean ====
section
/-! SUPPORT. The family EncodedLength: how many bytes are presented for each instruction (R92, R98), one
lemma per constructor. -/

namespace Sys2Proof.Laws

open Sys2Proof.Machine

/-- The number of bytes presented for an instruction: four and the operand's for an operation (R98), the
header's and the payload's for a frame (R80). -/
def encodedLength : Instr → Nat
  | .encAudio p => 4 + p.length
  | .encControl p => 4 + p.length
  | .parse d => 4 + d.length
  | .seqRead => 4
  | .validate _ b => 7 + b.length
  | .pttPress => 4
  | .pttRelease => 4
  | .audioBuf b => 4 + b.length
  | .shutdown => 4
  | .send f => 4 + f.length
  | .sndStats => 4
  | .close => 4
  | .report => 4
  | .frameAudioCurrent _ _ _ _ p => 14 + p.length
  | .frameTextCurrent _ _ _ _ p => 14 + p.length
  | .frameControlCurrent _ _ _ _ p => 14 + p.length
  | .frameDataCurrent _ _ _ _ p => 14 + p.length
  | .frameAudioLegacy _ _ _ p => 8 + p.length
  | .frameTextLegacy _ _ _ p => 8 + p.length
  | .frameControlLegacy _ _ _ p => 8 + p.length
  | .frameDataLegacy _ _ _ p => 8 + p.length

/-- What is presented for `i` has `encodedLength i` bytes. -/
def EncodedLength.Statement (i : Instr) : Prop := (inputBytes (encode i)).length = encodedLength i

theorem packet_length (code : Nat) (operand : List Byte) :
    (inputBytes (packet code operand)).length = 4 + operand.length := by
  simp only [inputBytes, packet, List.length_cons, List.length_append, be24_length]
  omega

theorem currentFrame_length (m : BitVec 16) (d : BitVec 48) (t : Nat) (q n : BitVec 16) (p : List Byte) :
    (inputBytes (currentFrame m d t q n p)).length = 14 + p.length := by
  simp [inputBytes, currentFrame]

theorem legacyFrame_length (m : BitVec 16) (t : Nat) (q n : BitVec 16) (p : List Byte) :
    (inputBytes (legacyFrame m t q n p)).length = 8 + p.length := by
  simp [inputBytes, legacyFrame]

theorem EncodedLength.encAudio (p : List Byte) : EncodedLength.Statement (.encAudio p) := packet_length _ _
theorem EncodedLength.encControl (p : List Byte) : EncodedLength.Statement (.encControl p) := packet_length _ _
theorem EncodedLength.parse (d : List Byte) : EncodedLength.Statement (.parse d) := packet_length _ _
theorem EncodedLength.seqRead : EncodedLength.Statement (.seqRead) := packet_length _ _
theorem EncodedLength.validate (n : Nat) (b : List Byte) : EncodedLength.Statement (.validate n b) := by
  have h := packet_length 0x4 (be24 n ++ b)
  simp only [List.length_append, be24_length] at h
  change (inputBytes (packet 0x4 (be24 n ++ b))).length = 7 + b.length
  omega
theorem EncodedLength.pttPress : EncodedLength.Statement (.pttPress) := packet_length _ _
theorem EncodedLength.pttRelease : EncodedLength.Statement (.pttRelease) := packet_length _ _
theorem EncodedLength.audioBuf (b : List Byte) : EncodedLength.Statement (.audioBuf b) := packet_length _ _
theorem EncodedLength.shutdown : EncodedLength.Statement (.shutdown) := packet_length _ _
theorem EncodedLength.send (f : List Byte) : EncodedLength.Statement (.send f) := packet_length _ _
theorem EncodedLength.sndStats : EncodedLength.Statement (.sndStats) := packet_length _ _
theorem EncodedLength.close : EncodedLength.Statement (.close) := packet_length _ _
theorem EncodedLength.report : EncodedLength.Statement (.report) := packet_length _ _
theorem EncodedLength.frameAudioCurrent (m : BitVec 16) (d : BitVec 48) (q n : BitVec 16) (p : List Byte) :
    EncodedLength.Statement (.frameAudioCurrent m d q n p) := currentFrame_length m d _ q n p
theorem EncodedLength.frameTextCurrent (m : BitVec 16) (d : BitVec 48) (q n : BitVec 16) (p : List Byte) :
    EncodedLength.Statement (.frameTextCurrent m d q n p) := currentFrame_length m d _ q n p
theorem EncodedLength.frameControlCurrent (m : BitVec 16) (d : BitVec 48) (q n : BitVec 16) (p : List Byte) :
    EncodedLength.Statement (.frameControlCurrent m d q n p) := currentFrame_length m d _ q n p
theorem EncodedLength.frameDataCurrent (m : BitVec 16) (d : BitVec 48) (q n : BitVec 16) (p : List Byte) :
    EncodedLength.Statement (.frameDataCurrent m d q n p) := currentFrame_length m d _ q n p
theorem EncodedLength.frameAudioLegacy (m q n : BitVec 16) (p : List Byte) :
    EncodedLength.Statement (.frameAudioLegacy m q n p) := legacyFrame_length m _ q n p
theorem EncodedLength.frameTextLegacy (m q n : BitVec 16) (p : List Byte) :
    EncodedLength.Statement (.frameTextLegacy m q n p) := legacyFrame_length m _ q n p
theorem EncodedLength.frameControlLegacy (m q n : BitVec 16) (p : List Byte) :
    EncodedLength.Statement (.frameControlLegacy m q n p) := legacyFrame_length m _ q n p
theorem EncodedLength.frameDataLegacy (m q n : BitVec 16) (p : List Byte) :
    EncodedLength.Statement (.frameDataLegacy m q n p) := legacyFrame_length m _ q n p

end Sys2Proof.Laws
end

