-- ==== Sys2Proof/Laws/Sends.lean ====
section
/-! SUPPORT. The four operations that send, seen as one: each is a settled send of the frame that `frameToSend`
names, on a state that differs from the one before in no network counter. -/

namespace Sys2Proof.Machine

open Host

/-- A counting operation is refused exactly when a counter would pass its limit (R33). -/
theorem commit_refused_iff {s : State} {r : Refusal} :
    commit s = .refused r ↔ r = .counterOverflow ∧ ¬ s.CountersFit := by
  unfold commit
  split <;> simp_all [eq_comm]

/-- What one send answers in each of its four cases (R181, R182). -/
theorem sendFrame_answers (f : List Byte) (s : State) :
    (s.transportOpen = false ∧ sendFrame f s = .ok (false, s.countFailed)) ∨
    (s.transportOpen = true ∧ transportAnswer s f = .fail ∧
      sendFrame f s = .ok (false, (s.noteTransport f .fail).countFailed)) ∨
    (s.transportOpen = true ∧ ∃ n, transportAnswer s f = .ok n ∧ n ≤ f.length ∧
      sendFrame f s = .ok (true, (s.noteTransport f (.ok n)).countSent n)) ∨
    (s.transportOpen = true ∧ ∃ n, transportAnswer s f = .ok n ∧ f.length < n ∧
      sendFrame f s = .error .transportOverAccept) := by
  unfold sendFrame
  cases ho : s.transportOpen with
  | false => simp
  | true =>
    cases ha : transportAnswer s f with
    | fail => simp
    | ok n =>
      by_cases h : n ≤ f.length
      · simp [h]
      · simp [h]
        omega

/-- `u` has the counters of `s`, but for `FRAMES_ENCODED` and `FRAMES_SENT`, which grew by `encoded` and
`sent`. -/
structure State.CountsLike (u s : State) (encoded sent : Nat) : Prop where
  framesEncoded : u.framesEncoded = s.framesEncoded + encoded
  framesSent : u.framesSent = s.framesSent + sent
  invalidFrames : u.invalidFrames = s.invalidFrames
  encodingErrors : u.encodingErrors = s.encodingErrors
  packetsSent : u.packetsSent = s.packetsSent
  bytesSent : u.bytesSent = s.bytesSent
  errors : u.errors = s.errors

/-- An operation that sends `f` is one settled send of `f` on a state `before` whose transport answers as that of
`s`. Before the send an audio buffer has counted one frame encoded; after it, one frame sent if it was. -/
theorem exec_of_frameToSend {i : Instr} {f : List Byte} {s : State} (h : frameToSend i s = some f)
    (hp : PayloadFits i s) :
    ∃ (audio : Bool) (before : State) (rest : Bool → State → State), (audio = true ↔ ∃ b, i = .audioBuf b) ∧
      exec i s = settle (sendFrame f before) rest ∧ before.transportOpen = s.transportOpen ∧
      transportAnswer before f = transportAnswer s f ∧ before.CountsLike s audio.toNat 0 ∧
      ∀ sent u, (rest sent u).CountsLike u 0 (audio && sent).toNat := by
  cases i <;> try (simp [frameToSend] at h; done)
  case send f' =>
    cases h
    exact ⟨false, s.markDirect, _, by simp, rfl, rfl, rfl, ⟨rfl, rfl, rfl, rfl, rfl, rfl, rfl⟩,
      fun _ _ => ⟨rfl, rfl, rfl, rfl, rfl, rfl, rfl⟩⟩
  case pttPress =>
    by_cases hh : s.halted = false ∧ s.pttState = .idle
    · simp only [frameToSend, if_pos hh] at h
      cases h
      refine ⟨false, (createFrame controlType s.config.startMarker (s.takeEdge .transmitting .on)).2,
        fun sent t => t.finish (sendStatus sent) none, by simp, ?_, rfl, rfl, ⟨rfl, rfl, rfl, rfl, rfl, rfl, rfl⟩,
        fun _ _ => ⟨rfl, rfl, rfl, rfl, rfl, rfl, rfl⟩⟩
      simp only [exec, execPttPress, hh.1, hh.2, createAndSend, if_pos (hp _ (if_pos hh))]
      rfl
    · simp [frameToSend, if_neg hh] at h
  case pttRelease =>
    by_cases hh : s.halted = false ∧ s.pttState = .transmitting
    · simp only [frameToSend, if_pos hh] at h
      cases h
      refine ⟨false, (createFrame controlType stopMarker (s.takeEdge .idle .off)).2,
        fun sent t => (t.emit (.report t.snapshot)).finish (sendStatus sent) none, by simp, ?_, rfl, rfl,
        ⟨rfl, rfl, rfl, rfl, rfl, rfl, rfl⟩, fun _ _ => ⟨rfl, rfl, rfl, rfl, rfl, rfl, rfl⟩⟩
      simp only [exec, execPttRelease, hh.1, hh.2, createAndSend, if_pos (hp _ (if_pos hh))]
      rfl
    · simp [frameToSend, if_neg hh] at h
  case audioBuf b =>
    by_cases hh : s.halted = false ∧ s.pttState = .transmitting ∧ validBuffer b (expectedLen s.config) = true
    · simp only [frameToSend, if_pos hh] at h
      cases hc : codecAnswer s b with
      | fail => simp [hc] at h
      | ok p =>
        simp only [hc] at h
        cases h
        have hl := hp p (by simp [payloadToFrame, hh, hc])
        refine ⟨true, (createFrame audioType p (s.noteCodec b).countEncoded).2,
          fun sent t => (t.countFrameSent sent).finishAudio (sendStatus sent), by simp, ?_, rfl, rfl,
          ⟨rfl, rfl, rfl, rfl, rfl, rfl, rfl⟩, fun sent _ => ⟨rfl, by cases sent <;> rfl, rfl, rfl, rfl, rfl, rfl⟩⟩
        simp only [exec, execAudioBuf, hh.1, hh.2.1, processBuffer, hh.2.2, hc, transmitPacket, createAndSend,
          if_pos hl]
        rfl
    · simp [frameToSend, if_neg hh] at h

end Sys2Proof.Machine
end

