-- ==== Sys2Proof/Laws/Trace.lean ====
section
/-! SUPPORT. What may be read off the ghost trace after a concatenation, and what a send does to the registers
and to the trace, said once for the invariants of R37 and R38. -/

namespace Sys2Proof.Machine

theorem askedFrames_append (a b : List Event) : askedFrames (a ++ b) = askedFrames a ++ askedFrames b := by
  induction a with
  | nil => rfl
  | cons e a ih => cases e <;> simp [askedFrames, ih]

theorem acceptedBytes_append (a b : List Event) : acceptedBytes (a ++ b) = acceptedBytes a + acceptedBytes b := by
  induction a with
  | nil => simp [acceptedBytes]
  | cons e a ih =>
    cases e with
    | transport f x => cases x <;> simp [acceptedBytes, ih, Nat.add_assoc]
    | indicator | report | audioContinue | stopDelivery | result => simp [acceptedBytes, ih]

/-- A send leaves every register but its own counters, and hands its frame to the transport exactly when the
transport is open. -/
theorem sendFrame_frame {f : List Byte} {s u : State} {b : Bool} (h : sendFrame f s = .ok (b, u)) :
    u.seq = s.seq ∧ u.pttState = s.pttState ∧ u.indicator = s.indicator ∧ u.halted = s.halted ∧
    u.transportOpen = s.transportOpen ∧ u.config = s.config ∧ u.framesEncoded = s.framesEncoded ∧
    u.framesSent = s.framesSent ∧ u.invalidFrames = s.invalidFrames ∧ u.encodingErrors = s.encodingErrors ∧
    u.created = s.created ∧ u.edges = s.edges ∧ u.hostDirect = s.hostDirect ∧ u.sends = s.sends + 1 ∧
    (s.transportOpen = true → askedFrames u.trace = askedFrames s.trace ++ [f]) ∧
    (s.transportOpen = false → askedFrames u.trace = askedFrames s.trace) := by
  rcases sendFrame_ok h with ⟨ho, rfl, rfl⟩ | ⟨ho, rfl, n, ha, hn, rfl⟩ | ⟨ho, rfl, ha, rfl⟩ <;>
    simp [ho, askedFrames_append, askedFrames]

/-- A send counts either a packet and the bytes accepted, or one error. -/
theorem sendFrame_counts {f : List Byte} {s u : State} {b : Bool} (h : sendFrame f s = .ok (b, u)) :
    (b = true → s.transportOpen = true ∧ u.packetsSent = s.packetsSent + 1 ∧ u.errors = s.errors) ∧
    (b = false → u.packetsSent = s.packetsSent ∧ u.bytesSent = s.bytesSent ∧ u.errors = s.errors + 1) ∧
    u.bytesSent + acceptedBytes s.trace = s.bytesSent + acceptedBytes u.trace := by
  rcases sendFrame_ok h with ⟨ho, rfl, rfl⟩ | ⟨ho, rfl, n, ha, hn, rfl⟩ | ⟨ho, rfl, ha, rfl⟩ <;>
    simp [ho, acceptedBytes_append, acceptedBytes]
  omega

end Sys2Proof.Machine
end

