-- ==== Sys2Proof/Tests/Slice0.lean ====
section
/-! SUPPORT. Tests: each check of WellFormed refuses an ill-formed term; a word of every constructor, written
out from the spec's encoding, decodes to it; every reason to reject is met; and for each instruction one or
two single steps whose expected result is a vector of spec/95_test_vectors.md (named T<n> there). -/

namespace Sys2Proof.Tests

open Sys2Proof.Machine Host

/-- The parameter set EX of spec/95_test_vectors.md. -/
def ex : Config where
  variant := .current
  syncWord := 0xFF5D
  legacyMagic := 0xFF5D
  stationId := 0x010203040506
  startMarker := defaultStartMarker
  sampleRate := .next 999
  frameMs := .next 1
  channels := .next 0
  bitrate := .next 15999
  targetAddr := []
  targetPort := 0
  pttInputId := []
  indicatorOutputId := []
  transportInitOk := true

/-- The parameter set EX-L. -/
def exL : Config := { ex with variant := .legacy }

/-- The reset state RST with EX. -/
def rst : State := State.initial ex 0

/-- The reset state with EX-L. -/
def rstL : State := State.initial exL 0

/-- The frame of T14 and T40. -/
def startFrame : List Byte :=
  [0xFF, 0x5D, 0x01, 0x02, 0x03, 0x04, 0x05, 0x06, 0x03, 0x00, 0x01, 0x00, 0x09, 0x00,
   0x50, 0x54, 0x54, 0x5F, 0x53, 0x54, 0x41, 0x52, 0x54]

/-- The state after T40. -/
def on : State :=
  { rst with
    pttState := .transmitting
    indicator := .on
    seq := 1
    packetsSent := 1
    bytesSent := 23
    created := 1
    sends := 1
    edges := 1
    trace := [.indicator .off, .indicator .on, .transport startFrame (.ok 23)] }

/-- The state after T53. -/
def off : State := { on with halted := true, transportOpen := false, indicator := .off }

/-- `s` with the oracle answers that the presented line assumes. -/
def assuming (codec : Option CodecAnswer) (transport : TransportAnswer) (s : State) : State :=
  { s with codecScript := codec, transportScript := some transport }

/-- The next state, if there is one. -/
def after : Outcome State Fault Refusal → Option State
  | .next t => some t
  | _ => none

/-- What is looked at after a step: registers that T-vectors list, and the status. -/
def seen (o : Outcome State Fault Refusal) : Option (List Nat × Status) :=
  (after o).map fun t =>
    ([t.seq.toNat, t.framesEncoded, t.framesSent, t.invalidFrames, t.encodingErrors, t.packetsSent, t.bytesSent,
      t.errors], t.status)

/-- What a step returns, and its status. -/
def returned (o : Outcome State Fault Refusal) : Option (Option Result × Status) :=
  (after o).map fun t => (t.result, t.status)

/-- The lamp side of a step: state, level, halted, open. -/
def mode (o : Outcome State Fault Refusal) : Option (PttState × Level × Bool × Bool) :=
  (after o).map fun t => (t.pttState, t.indicator, t.halted, t.transportOpen)

/-- The last event of the trace. -/
def lastEvent (o : Outcome State Fault Refusal) : Option Event := (after o).bind fun t => t.trace.getLast?

/-- The refusal, if it is one. -/
def refusal : Outcome State Fault Refusal → Option Refusal
  | .refused r => some r
  | _ => none

/-- The reason an input is rejected. -/
def reason : Except Reject Instr → Option Reject
  | .error r => some r
  | .ok _ => none

/-- The instruction an input spells. -/
def spelled (x : Input) : Option Instr :=
  match decodeInput x with
  | .ok i => some i
  | .error _ => none

/-! WellFormed. -/

theorem test_operand_too_long_is_ill_formed : (Instr.send (List.replicate (2 ^ 24) 0)).wellFormed = false := by
  simp only [Instr.wellFormed, operandFits, List.length_replicate]
  decide

theorem test_validate_length_too_large_is_ill_formed : (Instr.validate 16777216 []).wellFormed = false := by decide

theorem test_validate_buffer_too_long_is_ill_formed :
    (Instr.validate 0 (List.replicate (2 ^ 24 - 3) 0)).wellFormed = false := by
  simp only [Instr.wellFormed, validateFits, List.length_replicate]
  decide

theorem test_payload_length_mismatch_is_ill_formed : (Instr.frameDataLegacy 0 0 2 [0x11]).wellFormed = false := by
  decide

/-! Decoding: the packets of T70 to T74 and of R99. -/

theorem test_decode_encAudio : spelled (.command [0x00, 0x00, 0x00, 0x02, 0xAA, 0xBB]) = some (.encAudio [0xAA, 0xBB]) := by
  decide
theorem test_decode_encControl :
    spelled (.command [0x01, 0x00, 0x00, 0x09, 0x50, 0x54, 0x54, 0x5F, 0x53, 0x54, 0x41, 0x52, 0x54]) =
      some (.encControl [0x50, 0x54, 0x54, 0x5F, 0x53, 0x54, 0x41, 0x52, 0x54]) := by decide
theorem test_decode_parse : spelled (.command [0x02, 0x00, 0x00, 0x01, 0xFF]) = some (.parse [0xFF]) := by decide
theorem test_decode_seqRead : spelled (.command [0x03, 0x00, 0x00, 0x00]) = some .seqRead := by decide
theorem test_decode_validate :
    spelled (.command [0x04, 0x00, 0x00, 0x07, 0x00, 0x00, 0x04, 0x00, 0x00, 0x00, 0x01]) =
      some (.validate 4 [0x00, 0x00, 0x00, 0x01]) := by decide
theorem test_decode_pttPress : spelled (.command [0x08, 0x00, 0x00, 0x00]) = some .pttPress := by decide
theorem test_decode_pttRelease : spelled (.command [0x09, 0x00, 0x00, 0x00]) = some .pttRelease := by decide
theorem test_decode_audioBuf :
    spelled (.command [0x0A, 0x00, 0x00, 0x04, 0x01, 0x00, 0x02, 0x00]) = some (.audioBuf [0x01, 0x00, 0x02, 0x00]) := by
  decide
theorem test_decode_shutdown : spelled (.command [0x0B, 0x00, 0x00, 0x00]) = some .shutdown := by decide
theorem test_decode_send : spelled (.command [0x0C, 0x00, 0x00, 0x03, 0x01, 0x02, 0x03]) = some (.send [0x01, 0x02, 0x03]) := by
  decide
theorem test_decode_sndStats : spelled (.command [0x0D, 0x00, 0x00, 0x00]) = some .sndStats := by decide
theorem test_decode_close : spelled (.command [0x0E, 0x00, 0x00, 0x00]) = some .close := by decide
theorem test_decode_report : spelled (.command [0x0F, 0x00, 0x00, 0x00]) = some .report := by decide

/-! Decoding: a frame of each format, written from R81, R82 and R97 (the current ones are T9, T25 and T14 with
their type byte, the legacy ones T7 and T26 with theirs). -/

theorem test_decode_frameAudioCurrent :
    spelled (.frame .current [0xFF, 0x5D, 0x01, 0x02, 0x03, 0x04, 0x05, 0x06, 0x01, 0x12, 0x34, 0x00, 0x02, 0x00, 0xAA, 0xBB]) =
      some (.frameAudioCurrent 0xFF5D 0x010203040506 0x1234 2 [0xAA, 0xBB]) := by decide
theorem test_decode_frameTextCurrent :
    spelled (.frame .current [0x12, 0x34, 0x41, 0x42, 0x43, 0x44, 0x45, 0x46, 0x02, 0xFF, 0xFF, 0x00, 0x01, 0x00, 0x68]) =
      some (.frameTextCurrent 0x1234 0x414243444546 0xFFFF 1 [0x68]) := by decide
theorem test_decode_frameControlCurrent :
    spelled (.frame .current startFrame) =
      some (.frameControlCurrent 0xFF5D 0x010203040506 1 9 [0x50, 0x54, 0x54, 0x5F, 0x53, 0x54, 0x41, 0x52, 0x54]) := by
  decide
theorem test_decode_frameDataCurrent :
    spelled (.frame .current [0xFF, 0x5D, 0x0A, 0x0B, 0x0C, 0x0D, 0x0E, 0x0F, 0x04, 0x00, 0x0A, 0x00, 0x01, 0x00, 0x77]) =
      some (.frameDataCurrent 0xFF5D 0x0A0B0C0D0E0F 10 1 [0x77]) := by decide
theorem test_decode_frameAudioLegacy :
    spelled (.frame .legacy [0xFF, 0x5D, 0x01, 0x00, 0x05, 0x00, 0x00, 0x00]) = some (.frameAudioLegacy 0xFF5D 5 0 []) := by
  decide
theorem test_decode_frameTextLegacy :
    spelled (.frame .legacy [0xAB, 0xCD, 0x02, 0x01, 0x00, 0x00, 0x01, 0x00, 0x99]) =
      some (.frameTextLegacy 0xABCD 0x0100 1 [0x99]) := by decide
theorem test_decode_frameControlLegacy :
    spelled (.frame .legacy
      [0xFF, 0x5D, 0x03, 0x00, 0x01, 0x00, 0x09, 0x00, 0x50, 0x54, 0x54, 0x5F, 0x53, 0x54, 0x41, 0x52, 0x54]) =
      some (.frameControlLegacy 0xFF5D 1 9 [0x50, 0x54, 0x54, 0x5F, 0x53, 0x54, 0x41, 0x52, 0x54]) := by decide
theorem test_decode_frameDataLegacy :
    spelled (.frame .legacy [0xFF, 0x5D, 0x04, 0x00, 0x0A, 0x00, 0x02, 0x00, 0x11, 0x22]) =
      some (.frameDataLegacy 0xFF5D 10 2 [0x11, 0x22]) := by decide

/-! Rejecting by name: T75 to T79, and the model's own reasons (notes/assumptions/6.md, 5.md). -/

theorem test_reject_truncatedPacket : reason (decodeInput (.command [0x08, 0x00, 0x00])) = some .truncatedPacket := by decide
theorem test_reject_highNibble : reason (decodeInput (.command [0x10, 0x00, 0x00, 0x00])) = some .highNibble := by decide
theorem test_reject_reservedCode : reason (decodeInput (.command [0x07, 0x00, 0x00, 0x00])) = some .reservedCode := by decide
theorem test_reject_operandShort :
    reason (decodeInput (.command [0x00, 0x00, 0x00, 0x05, 0xAA, 0xBB])) = some .operandShort := by decide
theorem test_reject_operandSurplus :
    reason (decodeInput (.command [0x00, 0x00, 0x00, 0x01, 0xAA, 0xBB])) = some .operandSurplus := by decide
theorem test_reject_operandNotEmpty :
    reason (decodeInput (.command [0x08, 0x00, 0x00, 0x01, 0x00])) = some .operandNotEmpty := by decide
theorem test_reject_validateShort :
    reason (decodeInput (.command [0x04, 0x00, 0x00, 0x02, 0x00, 0x00])) = some .validateShort := by decide
theorem test_reject_frameShort :
    reason (decodeInput (.frame .legacy [0xFF, 0x5D, 0x01, 0x00, 0x05, 0x00, 0x00])) = some .frameShort := by decide
theorem test_reject_frameType :
    reason (decodeInput (.frame .legacy [0xFF, 0x5D, 0x05, 0x00, 0x05, 0x00, 0x00, 0x00])) = some .frameType := by decide
theorem test_reject_frameReserved :
    reason (decodeInput (.frame .legacy [0xFF, 0x5D, 0x01, 0x00, 0x05, 0x00, 0x00, 0x01])) = some .frameReserved := by decide
theorem test_reject_frameLength :
    reason (decodeInput (.frame .legacy [0xFF, 0x5D, 0x01, 0x00, 0x05, 0x00, 0x03, 0x00])) = some .frameLength := by decide

/-! The opcode table's numbering: the first byte is bits 7..0. -/

theorem test_table_word_of_seqRead : decodeTableWord 8 0x03 = some .seqRead := by decide
theorem test_table_word_of_send : decodeTableWord 8 0x0C = some (.send []) := by decide
theorem test_table_word_of_validate_has_no_operand : decodeTableWord 8 0x04 = none := by decide
theorem test_table_word_of_frameDataLegacy :
    decodeTableWord 64 0x0002000A00045DFF = some (.frameDataLegacy 0xFF5D 10 2 [0x00, 0x00]) := by decide
theorem test_placed_word_runs : returned (step (rst.withFetchWord 8 0x03)) = some (some (.sequence 0), .ok) := by decide

/-! One step of each operation. -/

/-- T1. -/
theorem test_encAudio_result :
    returned (exec (.encAudio [0xAA, 0xBB]) { rst with seq := 0x1233 }) =
      some (some (.frame [0xFF, 0x5D, 0x01, 0x02, 0x03, 0x04, 0x05, 0x06, 0x01, 0x12, 0x34, 0x00, 0x02, 0x00, 0xAA, 0xBB]), .ok) := by
  decide
/-- T3. -/
theorem test_encAudio_wraps :
    seen (exec (.encAudio [0x01]) { rst with seq := 0xFFFF }) = some ([0, 0, 0, 0, 0, 0, 0, 0], .ok) := by decide
/-- T4. -/
theorem test_encControl_result :
    returned (exec (.encControl [0x01]) { rst with seq := 0xFFFE }) =
      some (some (.frame [0xFF, 0x5D, 0x01, 0x02, 0x03, 0x04, 0x05, 0x06, 0x03, 0xFF, 0xFF, 0x00, 0x01, 0x00, 0x01]), .ok) := by
  decide
/-- T7. -/
theorem test_encControl_legacy :
    returned (exec (.encControl [0x50, 0x54, 0x54, 0x5F, 0x53, 0x54, 0x41, 0x52, 0x54]) rstL) =
      some (some (.frame
        [0xFF, 0x5D, 0x03, 0x00, 0x01, 0x00, 0x09, 0x00, 0x50, 0x54, 0x54, 0x5F, 0x53, 0x54, 0x41, 0x52, 0x54]), .ok) := by
  decide
/-- T18. -/
theorem test_parse_marker_mismatch :
    returned (exec (.parse [0xFF, 0x5C, 0x01, 0x02, 0x03, 0x04, 0x05, 0x06, 0x03, 0x00, 0x01, 0x00, 0x00, 0x00]) rst) =
      some (some .absent, .parseError) := by decide
/-- T20. -/
theorem test_parse_truncated :
    returned (exec (.parse [0xFF, 0x5D, 0x01, 0x02, 0x03, 0x04, 0x05, 0x06, 0x01, 0x00, 0x01, 0x00, 0x04, 0x00, 0xDE, 0xAD]) rst) =
      some (some (.parsed ⟨some 0x010203040506, 0x01, 1, 4, [0xDE, 0xAD]⟩), .ok) := by decide
/-- T12, its last operation. -/
theorem test_seqRead : returned (exec .seqRead { rst with seq := 2 }) = some (some (.sequence 2), .ok) := by decide
/-- T35. -/
theorem test_validate_one_byte :
    returned (exec (.validate 4 [0x80, 0x00, 0x00, 0x00]) rst) = some (some (.valid true), .ok) := by decide
/-- T36. -/
theorem test_validate_empty : returned (exec (.validate 0 []) rst) = some (some (.valid false), .validationError) := by decide
/-- T40. -/
theorem test_press_sends_start :
    lastEvent (exec .pttPress (assuming none (.ok 23) rst)) = some (.transport startFrame (.ok 23)) ∧
    mode (exec .pttPress (assuming none (.ok 23) rst)) = some (.transmitting, .on, false, true) ∧
    seen (exec .pttPress (assuming none (.ok 23) rst)) = some ([1, 0, 0, 0, 0, 1, 23, 0], .ok) := by decide
/-- T49. -/
theorem test_press_closed :
    seen (exec .pttPress { rst with transportOpen := false }) = some ([1, 0, 0, 0, 0, 0, 0, 1], .transmitError) ∧
    lastEvent (exec .pttPress { rst with transportOpen := false }) = some (.indicator .on) := by decide
/-- T42. -/
theorem test_release_reports_after_send :
    lastEvent (exec .pttRelease (assuming none (.ok 22) on)) = some (.report ⟨0, 0, 0, 0, 2, 45, 0, none⟩) ∧
    mode (exec .pttRelease (assuming none (.ok 22) on)) = some (.idle, .off, false, true) ∧
    seen (exec .pttRelease (assuming none (.ok 22) on)) = some ([2, 0, 0, 0, 0, 2, 45, 0], .ok) := by decide
/-- T43. -/
theorem test_release_idle : seen (exec .pttRelease rst) = some ([0, 0, 0, 0, 0, 0, 0, 0], .ignored) := by decide
/-- T51. -/
theorem test_audioBuf_counts_accepted_bytes :
    seen (exec (.audioBuf [0x01, 0x00, 0x02, 0x00]) (assuming (some (.ok [0xAA, 0xBB, 0xCC])) (.ok 10) on)) =
      some ([2, 1, 1, 0, 0, 2, 33, 0], .ok) := by decide
/-- T48; the codec has now been asked about that buffer too (R166). -/
theorem test_audioBuf_send_fails :
    let s := assuming (some (.ok [0xAA, 0xBB, 0xCC])) .fail { on with codecAsked := [[0x09]] }
    seen (exec (.audioBuf [0x01, 0x00, 0x02, 0x00]) s) = some ([2, 1, 0, 0, 0, 1, 23, 1], .transmitError) ∧
    (after (exec (.audioBuf [0x01, 0x00, 0x02, 0x00]) s)).map State.codecAsked =
      some [[0x09], [0x01, 0x00, 0x02, 0x00]] := by decide
/-- T53. -/
theorem test_shutdown_mid_transmission :
    mode (exec .shutdown on) = some (.transmitting, .off, true, false) ∧
    seen (exec .shutdown on) = some ([1, 0, 0, 0, 0, 1, 23, 0], .ok) := by decide
/-- T54. -/
theorem test_shutdown_twice : (after (exec .shutdown off)).map State.trace = some off.trace := by decide
/-- T57. -/
theorem test_send_fails :
    seen (exec (.send [0x01, 0x02, 0x03]) (assuming none .fail rst)) = some ([0, 0, 0, 0, 0, 0, 0, 1], .transmitError) ∧
    returned (exec (.send [0x01, 0x02, 0x03]) (assuming none .fail rst)) = some (some (.sent false), .transmitError) := by
  decide
/-- T67. -/
theorem test_send_over_accept :
    refusal (exec (.send [0x01, 0x02, 0x03]) (assuming none (.ok 4) rst)) = some .transportOverAccept := by decide
/-- T61. -/
theorem test_sndStats :
    returned (exec .sndStats { rst with packetsSent := 1, bytesSent := 3 }) = some (some (.senderStats 1 3 0), .ok) := by
  decide
/-- T62. -/
theorem test_close : mode (exec .close rst) = some (.idle, .off, false, false) := by decide
/-- T63. -/
theorem test_report_rate :
    returned (exec .report { rst with framesEncoded := 10, framesSent := 8 }) =
      some (some (.report ⟨10, 8, 0, 0, 0, 0, 0, some 80⟩), .ok) := by decide +kernel
/-- T65: the rate is the exact rational 100/3. -/
theorem test_report_exact :
    returned (exec .report { rst with framesEncoded := 3, framesSent := 1 }) =
      some (some (.report ⟨3, 1, 0, 0, 0, 0, 0, some (mkRat 100 3)⟩), .ok) := by decide +kernel

/-! One step of each frame format: the machine parses the frame (R131). -/

/-- T1's frame, as data. -/
theorem test_frameAudioCurrent :
    returned (exec (.frameAudioCurrent 0xFF5D 0x010203040506 0x1234 2 [0xAA, 0xBB]) rst) =
      some (some (.parsed ⟨some 0x010203040506, 0x01, 0x1234, 2, [0xAA, 0xBB]⟩), .ok) := by decide
/-- R132: a marker that is not the machine's gives absent. -/
theorem test_frameTextCurrent :
    returned (exec (.frameTextCurrent 0xFF5C 0x010203040506 1 0 []) rst) = some (some .absent, .parseError) := by decide
/-- T27: a legacy machine misreads the current frame of T14. -/
theorem test_frameControlCurrent_misread :
    returned (exec (.frameControlCurrent 0xFF5D 0x010203040506 1 9
        [0x50, 0x54, 0x54, 0x5F, 0x53, 0x54, 0x41, 0x52, 0x54]) rstL) =
      some (some (.parsed ⟨none, 0x01, 0x0203, 0x0405,
        [0x03, 0x00, 0x01, 0x00, 0x09, 0x00, 0x50, 0x54, 0x54, 0x5F, 0x53, 0x54, 0x41, 0x52, 0x54]⟩), .ok) := by decide
/-- T25. -/
theorem test_frameDataCurrent :
    returned (exec (.frameDataCurrent 0xFF5D 0x0A0B0C0D0E0F 10 1 [0x77]) rst) =
      some (some (.parsed ⟨some 0x0A0B0C0D0E0F, 0x04, 10, 1, [0x77]⟩), .ok) := by decide
/-- T26 with its declared length. -/
theorem test_frameAudioLegacy :
    returned (exec (.frameAudioLegacy 0xFF5D 5 0 []) rstL) = some (some (.parsed ⟨none, 0x01, 5, 0, []⟩), .ok) := by decide
/-- R131: 9 bytes are shorter than the current header. -/
theorem test_frameTextLegacy : returned (exec (.frameTextLegacy 0xFF5D 5 1 [0x99]) rst) = some (some .absent, .parseError) := by
  decide
/-- T28: a current machine misreads the legacy frame of T7. -/
theorem test_frameControlLegacy_misread :
    returned (exec (.frameControlLegacy 0xFF5D 1 9 [0x50, 0x54, 0x54, 0x5F, 0x53, 0x54, 0x41, 0x52, 0x54]) rst) =
      some (some (.parsed ⟨some 0x030001000900, 0x50, 0x5454, 0x5F53, [0x41, 0x52, 0x54]⟩), .ok) := by decide
/-- T26's header with type Data. -/
theorem test_frameDataLegacy :
    returned (exec (.frameDataLegacy 0xFF5D 10 2 [0x11, 0x22]) rstL) =
      some (some (.parsed ⟨none, 0x04, 10, 2, [0x11, 0x22]⟩), .ok) := by decide

/-! Witnesses: for each statement that has hypotheses, a concrete state and operands that meet all of them;
one for each clause, at a boundary of its range where it has one. -/

/-- `s` with `x` presented next. -/
def presenting (x : Input) (s : State) : State := s.presentNext ⟨.host, x, none, some (.ok 0)⟩

/-- What is spelled is what the decoder answers. -/
theorem spelled_ok {x : Input} {i : Instr} (h : spelled x = some i) : decodeInput x = .ok i := by
  unfold spelled at h
  split at h
  · cases h
    assumption
  · cases h

/-- `n` bytes that are not all zero. -/
def bytes (n : Nat) : List Byte := List.replicate n 0x55

theorem bytes_length (n : Nat) : (bytes n).length = n := List.length_replicate

theorem witness_ResetLeavesInitialRegisters : construct ex 0 true true = .ok rst := rfl

/-- T80, T83, T86. -/
theorem witness_ConstructionSucceedsExactlyWhen :
    (true = true ∧ true = true ∧ 1000 ∣ 48000 * 40) ∧ ¬ (true = true ∧ true = true ∧ 1000 ∣ 44100 * 5) ∧
    ¬ (false = true ∧ true = true ∧ 1000 ∣ ex.sampleRate.val * ex.frameMs.val) := by decide

/-- EX with an audio format of its own. -/
def exAudio (sampleRate frameMs channels : PositiveInt) : Config :=
  { ex with sampleRate := sampleRate, frameMs := frameMs, channels := channels }

/-- T81, T82, and the least length a configuration can have: one sample of one channel. -/
theorem witness_ExpectedLengthInEveryOrder :
    lengthIsWhole (exAudio ⟨44100, by decide⟩ ⟨40, by decide⟩ ⟨1, by decide⟩) = true ∧
    expectedLen (exAudio ⟨44100, by decide⟩ ⟨40, by decide⟩ ⟨1, by decide⟩) = 3528 ∧
    expectedLen (exAudio ⟨8000, by decide⟩ ⟨20, by decide⟩ ⟨2, by decide⟩) = 640 ∧
    lengthIsWhole (exAudio ⟨1, by decide⟩ ⟨1000, by decide⟩ ⟨1, by decide⟩) = true ∧
    expectedLen (exAudio ⟨1, by decide⟩ ⟨1000, by decide⟩ ⟨1, by decide⟩) = 2 := by decide

theorem witness_DecodeOfEncode :
    (Instr.validate 16777215 []).wellFormed = true ∧ (Instr.frameTextLegacy 0 0 0 []).wellFormed = true := by decide

theorem witness_DecodeOfEncode_longest : (Instr.parse (bytes 16777215)).wellFormed = true := by
  simp only [Instr.wellFormed, operandFits, bytes_length]
  decide

theorem witness_EncodeOfDecode :
    decodeInput (.command [0x04, 0x00, 0x00, 0x03, 0xFF, 0xFF, 0xFF]) = .ok (.validate 16777215 []) ∧
    decodeInput (.frame .legacy [0xFF, 0x5D, 0x01, 0x00, 0x05, 0x00, 0x00, 0x00]) = .ok (.frameAudioLegacy 0xFF5D 5 0 []) :=
  ⟨spelled_ok (by decide), spelled_ok (by decide)⟩

/-- One packet for each way of being malformed (T75 to T79). -/
theorem witness_MalformedPacketsAreAnsweredIllegalOp :
    16 ≤ (0x10 : Byte).toNat ∧ [0xAA].length < fromBe24 0x00 0x00 0x02 ∧
    ((0x08 : Byte) ∈ [(0x03 : Byte), 0x08, 0x09, 0x0B, 0x0D, 0x0E, 0x0F] ∧ fromBe24 0x00 0x00 0x01 ≠ 0) ∧
    ((0x04 : Byte) = 0x04 ∧ fromBe24 0x00 0x00 0x02 < 3) ∧
    (presenting (.command [0x05, 0x00, 0x00, 0x00]) rst).script =
      [⟨.host, .command [0x05, 0x00, 0x00, 0x00], none, some (.ok 0)⟩] := by decide

theorem witness_ShortAndSurplusPacketsAreAnsweredIllegalOp :
    [(0x08 : Byte), 0x00, 0x00].length < 4 ∧ fromBe24 0x00 0x00 0x00 < [(0xAA : Byte)].length ∧
    (presenting (.command [0x00, 0x00, 0x00, 0x00, 0xAA]) rst).script =
      [⟨.host, .command [0x00, 0x00, 0x00, 0x00, 0xAA], none, some (.ok 0)⟩] := by decide

theorem witness_StepRunsThePresentedOperation :
    decodeInput (.command [0x03, 0x00, 0x00, 0x00]) = .ok .seqRead ∧
    (presenting (.command [0x03, 0x00, 0x00, 0x00]) rst).script =
      [⟨.host, .command [0x03, 0x00, 0x00, 0x00], none, some (.ok 0)⟩] ∧ rst.script = [] :=
  ⟨spelled_ok (by decide), rfl, rfl⟩

theorem witness_PlacedWordRunsNext : decodeTableWord 8 0x0F = some .report := by decide

theorem witness_BuildHeaderByVariant : ex.variant = .current ∧ exL.variant = .legacy := ⟨rfl, rfl⟩

theorem witness_HeaderByteByByte : 65535 ≤ maxPayload ∧ ex.variant = .current ∧ exL.variant = .legacy := by decide

/-- The largest and the smallest payload, in both variants; also the witness of the statements about created
frames and about `ENC_AUDIO` and `ENC_CONTROL`. -/
theorem witness_CreatedFrameIsTheTablesFrame :
    (bytes 65535).length ≤ maxPayload ∧ (bytes 0).length ≤ maxPayload ∧ rst.config.variant = .current ∧
    rstL.config.variant = .legacy := by
  simp only [bytes_length]
  decide

theorem witness_ParseOfCreatedFrame : (bytes 65535).length ≤ maxPayload := by
  simp only [bytes_length]
  decide

/-- T15, T17 and T19. -/
theorem witness_ParseCompletes :
    (startFrame.take 13).length < headerSize ex ∧ (0xFE :: startFrame.drop 1).take 2 ≠ marker ex ∧
    headerSize ex ≤ (startFrame.take 14).length ∧ (startFrame.take 14).take 2 = marker ex := by decide

theorem witness_ParseIgnoresReservedAndTrailingBytes : headerSize ex ≤ (startFrame.take 14).length := by decide

theorem witness_ParseOfExtendedData :
    parseFrame ex (startFrame.take 14) = some ⟨some 0x010203040506, 0x03, 1, 9, []⟩ := by decide

theorem witness_CurrentFramesComplete :
    rst.config.variant = .current ∧ (bytes 65535).length = (0xFFFF : BitVec 16).toNat ∧
    (bytes 0).length = (0 : BitVec 16).toNat := by
  simp only [bytes_length]
  decide

theorem witness_LegacyFramesComplete :
    rstL.config.variant = .legacy ∧ (bytes 65535).length = (0xFFFF : BitVec 16).toNat ∧
    (bytes 0).length = (0 : BitVec 16).toNat := by
  simp only [bytes_length]
  decide

theorem witness_LegacyMachineMisreadsCurrentFrame : rstL.config.variant = .legacy := rfl

theorem witness_EncAudioCompletes : (bytes 65535).length ≤ maxPayload := witness_ParseOfCreatedFrame

theorem witness_EncControlCompletes : (bytes 65535).length ≤ maxPayload := witness_ParseOfCreatedFrame

/-- A start marker one byte too long. -/
def longStart : State := State.initial { ex with startMarker := bytes 65536 } 0

theorem witness_OversizePayloadIsRefused :
    maxPayload < (bytes 65536).length ∧ longStart.halted = false ∧ longStart.pttState = .idle ∧
    longStart.config.startMarker = bytes 65536 := by
  refine ⟨?_, rfl, rfl, rfl⟩
  simp only [bytes_length]
  decide

theorem witness_SequenceWrapsSilently :
    (bytes 1).length ≤ maxPayload ∧ ({ rst with seq := 0xFFFF } : State).seq = 0xFFFF := by decide

/-- The network counters one step below their limit. -/
def nearLimit (s : State) : State :=
  { s with packetsSent := counterMax - 1, bytesSent := counterMax - 23, errors := counterMax - 1 }

/-- The frame that a press of `rst` creates. -/
theorem rst_start_frame :
    startFrame = buildHeader rst.config 0x03 (rst.seq + 1) rst.config.startMarker.length ++ rst.config.startMarker := by
  decide

theorem witness_PressCompletes_sent :
    let s := assuming none (.ok 23) (nearLimit rst)
    s.halted = false ∧ s.pttState = .idle ∧ s.config.startMarker.length ≤ maxPayload ∧ s.CountersFit ∧
    startFrame = buildHeader s.config 0x03 (s.seq + 1) s.config.startMarker.length ++ s.config.startMarker ∧
    s.transportOpen = true ∧ transportAnswer s startFrame = .ok 23 ∧ 23 ≤ startFrame.length ∧
    s.packetsSent < counterMax ∧ s.bytesSent + 23 ≤ counterMax := by decide

theorem witness_PressCompletes_failed :
    let s := assuming none .fail (nearLimit rst)
    s.halted = false ∧ s.pttState = .idle ∧ s.config.startMarker.length ≤ maxPayload ∧ s.CountersFit ∧
    startFrame = buildHeader s.config 0x03 (s.seq + 1) s.config.startMarker.length ++ s.config.startMarker ∧
    s.transportOpen = true ∧ transportAnswer s startFrame = .fail ∧ s.errors < counterMax := by decide

theorem witness_PressCompletes_closed :
    let s := nearLimit { rst with transportOpen := false }
    s.halted = false ∧ s.pttState = .idle ∧ s.config.startMarker.length ≤ maxPayload ∧ s.CountersFit ∧
    startFrame = buildHeader s.config 0x03 (s.seq + 1) s.config.startMarker.length ++ s.config.startMarker ∧
    s.transportOpen = false ∧ s.errors < counterMax := by decide

theorem witness_RedundantEdgesAreIgnored :
    on.halted = false ∧ on.pttState = .transmitting ∧ rst.halted = false ∧ rst.pttState = .idle := by decide

/-- The frame of T42. -/
def stopFrame : List Byte :=
  [0xFF, 0x5D, 0x01, 0x02, 0x03, 0x04, 0x05, 0x06, 0x03, 0x00, 0x02, 0x00, 0x08, 0x00,
   0x50, 0x54, 0x54, 0x5F, 0x53, 0x54, 0x4F, 0x50]

theorem witness_ReleaseCompletes_sent :
    let s := assuming none (.ok 22) (nearLimit on)
    s.halted = false ∧ s.pttState = .transmitting ∧ s.CountersFit ∧
    stopFrame = buildHeader s.config 0x03 (s.seq + 1) 8 ++ stopMarker ∧
    s.transportOpen = true ∧ transportAnswer s stopFrame = .ok 22 ∧ 22 ≤ stopFrame.length ∧
    s.packetsSent < counterMax ∧ s.bytesSent + 22 ≤ counterMax := by decide

theorem witness_ReleaseCompletes_failed :
    let s := assuming none .fail (nearLimit on)
    s.halted = false ∧ s.pttState = .transmitting ∧ s.CountersFit ∧
    stopFrame = buildHeader s.config 0x03 (s.seq + 1) 8 ++ stopMarker ∧
    s.transportOpen = true ∧ transportAnswer s stopFrame = .fail ∧ s.errors < counterMax := by decide

theorem witness_ReleaseCompletes_closed :
    let s := nearLimit { on with transportOpen := false }
    s.halted = false ∧ s.pttState = .transmitting ∧ s.CountersFit ∧
    stopFrame = buildHeader s.config 0x03 (s.seq + 1) 8 ++ stopMarker ∧
    s.transportOpen = false ∧ s.errors < counterMax := by decide

theorem witness_IdleBuffersAreDiscarded : rst.halted = false ∧ rst.pttState = .idle := by decide

/-- T46 and T47, with the counters one step below their limit; a buffer of the wrong length too. -/
theorem witness_DroppedBuffersAreCounted :
    let s := { on with invalidFrames := counterMax - 1, encodingErrors := counterMax - 1, codecScript := some .fail }
    s.halted = false ∧ s.pttState = .transmitting ∧ s.CountersFit ∧ s.invalidFrames < counterMax ∧
    s.encodingErrors < counterMax ∧ [0x01, 0x00, 0x02].length ≠ expectedLen s.config ∧
    (∀ x ∈ ([0x00, 0x00, 0x00, 0x00] : List Byte), x = 0x00) ∧
    validBuffer [0x00, 0x00, 0x00, 0x01] (expectedLen s.config) = true ∧
    codecAnswer s [0x00, 0x00, 0x00, 0x01] = .fail := by decide

/-- The frame of T45. -/
def audioFrame : List Byte :=
  [0xFF, 0x5D, 0x01, 0x02, 0x03, 0x04, 0x05, 0x06, 0x01, 0x00, 0x02, 0x00, 0x03, 0x00, 0xAA, 0xBB, 0xCC]

/-- What every clause of EncodedBuffersAreSent asks of a state, for the buffer and the packet of T45. -/
abbrev audioReady (s : State) : Prop :=
  s.halted = false ∧ s.pttState = .transmitting ∧
  validBuffer [0x01, 0x00, 0x02, 0x00] (expectedLen s.config) = true ∧
  codecAnswer s [0x01, 0x00, 0x02, 0x00] = .ok [0xAA, 0xBB, 0xCC] ∧
  [(0xAA : Byte), 0xBB, 0xCC].length ≤ maxPayload ∧ s.CountersFit ∧ s.framesEncoded < counterMax ∧
  audioFrame = buildHeader s.config 0x01 (s.seq + 1) 3 ++ [0xAA, 0xBB, 0xCC]

theorem witness_EncodedBuffersAreSent_sent :
    let s := assuming (some (.ok [0xAA, 0xBB, 0xCC])) (.ok 17)
      { nearLimit on with framesEncoded := counterMax - 1, framesSent := counterMax - 1 }
    audioReady s ∧ s.transportOpen = true ∧ transportAnswer s audioFrame = .ok 17 ∧ 17 ≤ audioFrame.length ∧
    s.framesSent < counterMax ∧ s.packetsSent < counterMax ∧ s.bytesSent + 17 ≤ counterMax := by decide

theorem witness_EncodedBuffersAreSent_failed :
    let s := assuming (some (.ok [0xAA, 0xBB, 0xCC])) .fail (nearLimit on)
    audioReady s ∧ s.transportOpen = true ∧ transportAnswer s audioFrame = .fail ∧ s.errors < counterMax := by decide

theorem witness_EncodedBuffersAreSent_closed :
    let s := assuming (some (.ok [0xAA, 0xBB, 0xCC])) .fail { nearLimit on with transportOpen := false }
    audioReady s ∧ s.transportOpen = false ∧ s.errors < counterMax := by decide

/-- The audio buffer of T45 is admitted in the state of T40; so is the press of T40 in reset. -/
theorem witness_AudioBufAlwaysContinues :
    Admitted (.audioBuf [0x01, 0x00, 0x02, 0x00]) (assuming (some (.ok [0xAA, 0xBB, 0xCC])) (.ok 17) on) := by
  refine ⟨by unfold State.HasRoom; decide, fun p h => ?_, fun f h => ?_⟩
  · rw [show payloadToFrame _ _ = some [0xAA, 0xBB, 0xCC] from by decide] at h
    cases h
    decide
  · rw [show frameToSend _ _ = some audioFrame from by decide] at h
    cases h
    refine ⟨by unfold State.HasRoom; decide, fun n hn => ?_⟩
    cases hn
    decide

theorem witness_AdmittedOperationsComplete : Admitted .pttPress (assuming none (.ok 23) rst) := by
  refine ⟨by unfold State.HasRoom; decide, fun p h => ?_, fun f h => ?_⟩
  · rw [show payloadToFrame _ _ = some defaultStartMarker from by decide] at h
    cases h
    decide
  · rw [show frameToSend _ _ = some startFrame from by decide] at h
    cases h
    refine ⟨by unfold State.HasRoom; decide, fun n hn => ?_⟩
    cases hn
    decide

theorem witness_HaltedEventsDoNothing : off.halted = true := rfl

theorem witness_ShutdownCompletes : on.halted = false ∧ off.halted = true := ⟨rfl, rfl⟩

/-- The empty frame of T59 among them. -/
theorem witness_SendCompletes :
    let s := assuming none (.ok 0) { nearLimit rst with bytesSent := counterMax }
    s.CountersFit ∧ s.transportOpen = true ∧ transportAnswer s [] = .ok 0 ∧ 0 ≤ ([] : List Byte).length ∧
    s.packetsSent < counterMax ∧ s.bytesSent + 0 ≤ counterMax := by decide

theorem witness_SendCompletes_failed :
    let s := assuming none .fail (nearLimit rst)
    s.CountersFit ∧ s.transportOpen = true ∧ transportAnswer s [0x01] = .fail ∧ s.errors < counterMax := by decide

theorem witness_SendCompletes_closed :
    (nearLimit off).CountersFit ∧ (nearLimit off).transportOpen = false ∧ (nearLimit off).errors < counterMax := by decide

/-- A state from which all four kinds of send are over-accepted: T67, and each send of the PTT unit. -/
theorem witness_OutOfRangeSendsAreRefused_overAccept :
    (let s := assuming none (.ok 4) rst
     frameToSend (.send [0x01, 0x02, 0x03]) s = some [0x01, 0x02, 0x03] ∧ s.transportOpen = true ∧
     transportAnswer s [0x01, 0x02, 0x03] = .ok 4 ∧ [(0x01 : Byte), 0x02, 0x03].length < 4) ∧
    (let s := assuming none (.ok 24) rst
     frameToSend .pttPress s = some startFrame ∧ payloadToFrame .pttPress s = some defaultStartMarker ∧
     s.transportOpen = true ∧ transportAnswer s startFrame = .ok 24 ∧ startFrame.length < 24) ∧
    (let s := assuming none (.ok 23) on
     frameToSend .pttRelease s = some stopFrame ∧ payloadToFrame .pttRelease s = some stopMarker ∧
     s.transportOpen = true ∧ transportAnswer s stopFrame = .ok 23 ∧ stopFrame.length < 23) ∧
    (let s := assuming (some (.ok [0xAA, 0xBB, 0xCC])) (.ok 18) on
     frameToSend (.audioBuf [0x01, 0x00, 0x02, 0x00]) s = some audioFrame ∧
     payloadToFrame (.audioBuf [0x01, 0x00, 0x02, 0x00]) s = some [0xAA, 0xBB, 0xCC] ∧
     s.transportOpen = true ∧ transportAnswer s audioFrame = .ok 18 ∧ audioFrame.length < 18) := by decide

/-- A payload that fits, known by the one payload there is. -/
theorem payloadFits_of {i : Instr} {s : State} {p : List Byte} (h : payloadToFrame i s = some p)
    (hp : p.length ≤ maxPayload) : PayloadFits i s := by
  intro q hq
  rw [h] at hq
  cases hq
  exact hp

/-- Where no frame is created there is no payload to fit. -/
theorem payloadFits_of_none {i : Instr} {s : State} (h : payloadToFrame i s = none) : PayloadFits i s := by
  intro q hq
  rw [h] at hq
  cases hq

/-- The payloads of those four fit; a direct send creates no frame. -/
theorem witness_OutOfRangeSendsAreRefused_fits :
    PayloadFits (.send [0x01, 0x02, 0x03]) (assuming none (.ok 4) rst) ∧
    PayloadFits .pttPress (assuming none (.ok 24) rst) ∧ PayloadFits .pttRelease (assuming none (.ok 23) on) ∧
    PayloadFits (.audioBuf [0x01, 0x00, 0x02, 0x00]) (assuming (some (.ok [0xAA, 0xBB, 0xCC])) (.ok 18) on) :=
  ⟨payloadFits_of_none rfl, payloadFits_of (p := defaultStartMarker) (by decide) (by decide),
    payloadFits_of (p := stopMarker) (by decide) (by decide),
    payloadFits_of (p := [0xAA, 0xBB, 0xCC]) (by decide) (by decide)⟩

/-- `PACKETS_SENT`, `BYTES_SENT` and `ERRORS` at their limits, on an open and on a closed transport. -/
theorem witness_OutOfRangeSendsAreRefused_limits :
    (let s := assuming none (.ok 0) { rst with packetsSent := counterMax }
     s.transportOpen = true ∧ transportAnswer s [0x01] = .ok 0 ∧ 0 ≤ [(0x01 : Byte)].length ∧
     s.packetsSent = counterMax ∧ frameToSend (.send [0x01]) s = some [0x01]) ∧
    (let s := assuming none (.ok 1) { rst with bytesSent := counterMax }
     s.transportOpen = true ∧ transportAnswer s [0x01] = .ok 1 ∧ 1 ≤ [(0x01 : Byte)].length ∧
     counterMax < s.bytesSent + 1 ∧ frameToSend (.send [0x01]) s = some [0x01]) ∧
    (let s := assuming none .fail { rst with errors := counterMax }
     s.transportOpen = true ∧ transportAnswer s [0x01] = .fail ∧ s.errors = counterMax ∧
     frameToSend (.send [0x01]) s = some [0x01]) ∧
    (let s := { off with errors := counterMax }
     s.transportOpen = false ∧ s.errors = counterMax ∧ frameToSend (.send [0x01]) s = some [0x01]) := by decide

/-- `on`, with a codec packet one byte too long. -/
def onLongPacket : State := assuming (some (.ok (bytes 65536))) .fail on

/-- Each name of R205 is met from a state whose counters are within their limit. -/
theorem witness_RefusedExactlyInTheCasesOfR205 :
    (longStart.CountersFit ∧ RefusalCase .pttPress longStart .payloadTooLong) ∧
    (onLongPacket.CountersFit ∧ RefusalCase (.audioBuf [0x01, 0x00, 0x02, 0x00]) onLongPacket .codecPacketTooLong) ∧
    (rst.CountersFit ∧ RefusalCase (.send [0x01]) (assuming none (.ok 2) rst) .transportOverAccept) := by
  refine ⟨⟨by decide, .inl ⟨rfl, by simp, fun h => ?_⟩⟩, ⟨by decide, .inr (.inl ⟨rfl, ⟨_, rfl⟩, fun h => ?_⟩)⟩,
    ⟨by decide, .inr (.inr (.inl ⟨rfl, [0x01], 2, rfl, payloadFits_of_none rfl, rfl, rfl, by decide⟩))⟩⟩
  · have := h (bytes 65536) rfl
    rw [bytes_length] at this
    exact absurd this (by decide)
  · have := h (bytes 65536) rfl
    rw [bytes_length] at this
    exact absurd this (by decide)

/-- Each of the four audio-side counters at its limit. -/
theorem witness_RefusedExactlyInTheCasesOfR205_counters :
    (let s := { on with invalidFrames := counterMax }
     s.CountersFit ∧ RefusalCase (.audioBuf []) s .counterOverflow) ∧
    (let s := { on with encodingErrors := counterMax, codecScript := some .fail }
     s.CountersFit ∧ RefusalCase (.audioBuf [0x01, 0x00, 0x02, 0x00]) s .counterOverflow) ∧
    (let s := assuming (some (.ok [0xAA, 0xBB, 0xCC])) .fail { on with framesEncoded := counterMax }
     s.CountersFit ∧ RefusalCase (.audioBuf [0x01, 0x00, 0x02, 0x00]) s .counterOverflow) ∧
    (let s := assuming (some (.ok [0xAA, 0xBB, 0xCC])) (.ok 0) { on with framesSent := counterMax }
     s.CountersFit ∧ RefusalCase (.audioBuf [0x01, 0x00, 0x02, 0x00]) s .counterOverflow) := by
  have full : ∀ {i s}, CounterAtLimit i s → RefusalCase i s .counterOverflow := fun h => .inr (.inr (.inr ⟨rfl, h⟩))
  refine ⟨⟨by decide, full (.inr (.inr (.inl ⟨[], ⟨rfl, rfl, rfl⟩, by decide, rfl⟩)))⟩,
    ⟨by decide, full (.inr (.inr (.inr ⟨[0x01, 0x00, 0x02, 0x00], ⟨rfl, rfl, rfl⟩, by decide, rfl, rfl⟩)))⟩,
    ⟨by decide, full (.inr (.inl ⟨audioFrame, by decide,
      payloadFits_of (p := [0xAA, 0xBB, 0xCC]) (by decide) (by decide), .inr rfl, .inr ⟨⟨_, rfl⟩, rfl⟩⟩))⟩,
    ⟨by decide, full (.inl ⟨audioFrame, 0, by decide,
      payloadFits_of (p := [0xAA, 0xBB, 0xCC]) (by decide) (by decide), rfl, rfl, by decide,
      .inr (.inr ⟨⟨_, rfl⟩, .inr rfl⟩)⟩)⟩⟩

/-- T64: no frame encoded, so no rate. -/
theorem witness_ReportCompletes :
    (⟨0, 0, 0, 0, 0, 0, 0, none⟩ : Snapshot) =
      { framesEncoded := rst.framesEncoded, framesSent := rst.framesSent, invalidFrames := rst.invalidFrames,
        encodingErrors := rst.encodingErrors, packetsSent := rst.packetsSent, bytesSent := rst.bytesSent,
        errors := rst.errors,
        successRate := if 0 < rst.framesEncoded then some ((rst.framesSent : Rat) * 100 / rst.framesEncoded) else none } :=
  rfl

theorem witness_SuccessRateIsExact : 0 < 10 ∧ 8 ≤ 10 := by decide

/-- `on` has the invariants, and a step from it is taken. -/
theorem on_lawful : on.Lawful where
  seqCountsFrames := by decide
  sentLeEncoded := by decide
  sendsAreCounted := by decide
  bytesAreAccepted := by decide
  indicatorShowsState := by decide
  neverOpened := by decide
  countersFit := by decide
  haltedIsQuiet := by decide

theorem on_pipelineLawful : on.PipelineLawful where
  framesAreAccounted := by decide
  sentLePackets := by decide
  unsentLeErrors := by decide
  sequencesAreConsecutive := by
    intro k f h
    match k with
    | 0 =>
      cases h
      decide
    | _ + 1 => cases h
  everyFrameIsAsked := by decide

/-- The release of T42, presented after T40. -/
def releasing : State := on.presentNext ⟨.hw, .command [0x09, 0x00, 0x00, 0x00], none, some (.ok 22)⟩

theorem witness_EveryStepKeepsLawful :
    releasing.Lawful ∧ ∃ t, step releasing = .next t ∧ t.pttState = .idle ∧ t.seq = 2 :=
  ⟨⟨on_lawful.1, on_lawful.2, on_lawful.3, on_lawful.4, on_lawful.5, on_lawful.6, on_lawful.7, on_lawful.8⟩,
    _, rfl, rfl, rfl⟩

theorem witness_PipelineStepsKeepSequenceConsecutive :
    releasing.Lawful ∧ releasing.PipelineLawful ∧ ∃ t, step releasing = .next t ∧ t.hostDirect = false :=
  ⟨witness_EveryStepKeepsLawful.1,
    ⟨on_pipelineLawful.1, on_pipelineLawful.2, on_pipelineLawful.3, on_pipelineLawful.4, on_pipelineLawful.5⟩,
    _, rfl, rfl⟩

theorem witness_CountersNeverDecrease : ∃ t, step releasing = .next t ∧ t.bytesSent = 45 := ⟨_, rfl, rfl⟩

theorem witness_ConfigurationIsNeverWritten : ∃ t, step releasing = .next t ∧ t.config = ex := ⟨_, rfl, rfl⟩

theorem witness_OnlyEdgesMovePttState :
    (∃ t, exec .pttRelease (assuming none (.ok 22) on) = .next t ∧ t.pttState ≠ on.pttState) ∧
    ∃ t, exec .pttPress (assuming none (.ok 23) rst) = .next t ∧ t.pttState ≠ rst.pttState :=
  ⟨⟨_, rfl, by decide⟩, ⟨_, rfl, by decide⟩⟩

theorem witness_OnlyEdgesAndShutdownDriveIndicator :
    (∃ t, exec .pttRelease (assuming none (.ok 22) on) = .next t ∧ t.indicator ≠ on.indicator) ∧
    (∃ t, exec .pttPress (assuming none (.ok 23) rst) = .next t ∧ t.indicator ≠ rst.indicator) ∧
    ∃ t, exec .shutdown on = .next t ∧ t.indicator ≠ on.indicator :=
  ⟨⟨_, rfl, by decide⟩, ⟨_, rfl, by decide⟩, ⟨_, rfl, by decide⟩⟩

theorem witness_OnlyFrameCreationMovesSeq :
    (∃ t, exec (.encAudio []) { rst with seq := 0xFFFF } = .next t ∧ t.seq = 0) ∧
    ∃ t, exec .seqRead rst = .next t ∧ t.seq = rst.seq := ⟨⟨_, rfl, rfl⟩, ⟨_, rfl, rfl⟩⟩

theorem witness_NothingReopensOrResumes :
    (∃ t, exec .shutdown on = .next t ∧ t.halted ≠ on.halted ∧ t.transportOpen ≠ on.transportOpen) ∧
    ∃ t, exec .close off = .next t ∧ off.halted = true ∧ off.transportOpen = false :=
  ⟨⟨_, rfl, by decide, by decide⟩, ⟨_, rfl, rfl, rfl⟩⟩

/-- One operation of each recoverable kind (T46, T47, T49, T16), and a release whose send fails. -/
theorem witness_ErrorsAreContained :
    (∃ t, exec (.audioBuf [0x00, 0x00, 0x00, 0x00]) on = .next t ∧ t.status = .validationError) ∧
    (∃ t, exec (.audioBuf [0x01, 0x00, 0x02, 0x00]) (assuming (some .fail) .fail on) = .next t ∧
      t.status = .encodeError) ∧
    (∃ t, exec .pttPress { rst with transportOpen := false } = .next t ∧ t.status = .transmitError) ∧
    (∃ t, exec .pttRelease (assuming none .fail on) = .next t ∧ t.status = .transmitError) ∧
    ∃ t, exec (.parse []) rst = .next t ∧ t.status = .parseError :=
  ⟨⟨_, rfl, rfl⟩, ⟨_, rfl, rfl⟩, ⟨_, rfl, rfl⟩, ⟨_, rfl, rfl⟩, ⟨_, rfl, rfl⟩⟩

theorem witness_ReadsAreIdempotent :
    (∃ n b, Instr.validate 0 [] = .validate n b) ∧ (∃ d, Instr.parse [] = .parse d) ∧
    (assuming none .fail rst).registers = rst.registers := ⟨⟨_, _, rfl⟩, ⟨_, rfl⟩, rfl⟩

theorem witness_PresenterHasNoInfluence :
    (∃ t, exec .pttPress (assuming none (.ok 23) rst) = .next t) ∧
    ∃ r, exec (.send [0x01, 0x02, 0x03]) (assuming none (.ok 4) rst) = .refused r := ⟨⟨_, rfl⟩, ⟨_, rfl⟩⟩

theorem witness_IdleCreatesNoAudioFrame :
    ∃ t, exec (.audioBuf [0x01, 0x00, 0x02, 0x00]) (assuming (some (.ok [0xAA])) (.ok 15) rst) = .next t ∧
      rst.pttState = .idle ∧ t.status = .discarded := ⟨_, rfl, rfl, rfl⟩

theorem witness_FreeAnswersAreInRange : rst.codecScript = none ∧ rst.transportScript = none := ⟨rfl, rfl⟩

end Sys2Proof.Tests
end

section
/-! The reads of R52: an ending writes no register, what a read returns is a function of the registers, so
each of the five leaves the registers alone and answers alike in any two states that share them. -/

namespace Sys2Proof.Machine

/-! Emitting and ending write no register (R18, R20). -/

@[simp] theorem State.emit_registers (s : State) (e : Event) : (s.emit e).registers = s.registers := rfl

@[simp] theorem State.finish_registers (s : State) (k : Status) (r : Option Result) :
    (s.finish k r).registers = s.registers := rfl

/-! What the reads look at is settled by the registers. -/

theorem seq_congr {s s' : State} (h : s'.registers = s.registers) : s'.seq = s.seq :=
  congrArg Registers.seq h

theorem config_congr {s s' : State} (h : s'.registers = s.registers) : s'.config = s.config :=
  congrArg Registers.config h

theorem snapshot_congr {s s' : State} (h : s'.registers = s.registers) : s'.snapshot = s.snapshot := by
  simp only [State.registers, Registers.mk.injEq] at h
  simp only [State.snapshot, h]

theorem senderStats_congr {s s' : State} (h : s'.registers = s.registers) :
    Result.senderStats s'.packetsSent s'.bytesSent s'.errors =
      .senderStats s.packetsSent s.bytesSent s.errors := by
  simp only [State.registers, Registers.mk.injEq] at h
  simp only [h]

/-! How each read ends, with no side condition. -/

theorem exec_parse (d : List Byte) (s : State) :
    exec (.parse d) s =
      .next (s.finish (parseStatus (parseFrame s.config d)) (some (parseResult (parseFrame s.config d)))) := rfl

theorem exec_validate (n : Nat) (b : List Byte) (s : State) :
    exec (.validate n b) s =
      .next (s.finishWith (validStatus (validBuffer b n)) (.valid (validBuffer b n))) := rfl

theorem exec_seqRead (s : State) : exec .seqRead s = .next (s.finishWith .ok (.sequence s.seq)) := rfl

theorem exec_sndStats (s : State) :
    exec .sndStats s = .next (s.finishWith .ok (.senderStats s.packetsSent s.bytesSent s.errors)) := rfl

theorem exec_report (s : State) : exec .report s = .next (s.finishWith .ok (.report s.snapshot)) := rfl

/-- An operation that emits one result and ends, with the same result and status in two states that share
their registers, is a read in the sense of R52. -/
theorem answers_alike_of_finishWith {i : Instr} {s s' : State} {k : Status} {r : Result}
    (h : s'.registers = s.registers) (hs : exec i s = .next (s.finishWith k r))
    (hs' : exec i s' = .next (s'.finishWith k r)) :
    ∃ t u, exec i s = .next t ∧ t.registers = s.registers ∧
      exec i s' = .next u ∧ u.registers = s.registers ∧ u.result = t.result ∧ u.status = t.status :=
  ⟨_, _, hs, by simp, hs', by simp [h], by simp, by simp⟩

/-- Settles O56, one case for each read: `PARSE` depends on the configuration, `VALIDATE` on its operand
alone, `SEQ_READ` on `SEQ`, `SND_STATS` and `REPORT` on the counters. -/
theorem readsAreIdempotent : Obligations.ReadsAreIdempotent := by
  rintro i s s' (⟨d, rfl⟩ | ⟨n, b, rfl⟩ | rfl | rfl | rfl) h
  case inl =>
    have hc : s'.config = s.config := config_congr h
    exact ⟨_, _, exec_parse d s, by simp, exec_parse d s', by simp [h], by simp [hc], by simp [hc]⟩
  case inr.inl => exact answers_alike_of_finishWith h (exec_validate n b s) (exec_validate n b s')
  case inr.inr.inl =>
    exact answers_alike_of_finishWith h (exec_seqRead s) (seq_congr h ▸ exec_seqRead s')
  case inr.inr.inr.inl =>
    exact answers_alike_of_finishWith h (exec_sndStats s) (senderStats_congr h ▸ exec_sndStats s')
  case inr.inr.inr.inr =>
    exact answers_alike_of_finishWith h (exec_report s) (snapshot_congr h ▸ exec_report s')

end Sys2Proof.Machine
end

section
/-! The frame encoder (R110 to R117): the header each variant builds and its length, what creating a frame
writes, and the completion the two direct creates share. -/

namespace Sys2Proof.Machine

/-! The header. -/

theorem buildHeader_current {c : Config} (hv : c.variant = .current) (t : Byte) (q : BitVec 16) (n : Nat) :
    buildHeader c t q n =
      be16 c.syncWord.toNat ++ stationBytes c ++ [t] ++ be16 q.toNat ++ be16 n ++ [0x00] := by
  simp only [buildHeader, hv]

theorem buildHeader_legacy {c : Config} (hv : c.variant = .legacy) (t : Byte) (q : BitVec 16) (n : Nat) :
    buildHeader c t q n = be16 c.legacyMagic.toNat ++ [t] ++ be16 q.toNat ++ be16 n ++ [0x00] := by
  simp only [buildHeader, hv]

/-- A built header fills the variant's header size (R80). -/
@[simp] theorem buildHeader_length (c : Config) (t : Byte) (q : BitVec 16) (n : Nat) :
    (buildHeader c t q n).length = headerSize c := by
  cases hv : c.variant with
  | current => simp [buildHeader_current hv, headerSize, hv]
  | legacy => simp [buildHeader_legacy hv, headerSize, hv]

/-- Settles O12: the layout is the variant's, and its length the variant's header size. -/
theorem buildHeaderByVariant : Obligations.BuildHeaderByVariant := by
  intro c t q n
  refine ⟨fun hv => ⟨buildHeader_current hv t q n, ?_⟩, fun hv => ⟨buildHeader_legacy hv t q n, ?_⟩⟩
  · rw [buildHeader_length, headerSize, hv]
  · rw [buildHeader_length, headerSize, hv]

/-! Creating a frame. -/

/-- The payload bound of R115 is what keeps a length inside its two-byte field. -/
theorem lt_of_le_maxPayload {n : Nat} (h : n ≤ maxPayload) : n < 65536 := Nat.lt_succ_of_le h

theorem createFrame_fst (t : Byte) (p : List Byte) (s : State) :
    (createFrame t p s).1 = buildHeader s.config t (s.seq + 1) p.length ++ p := rfl

theorem createFrame_snd (t : Byte) (p : List Byte) (s : State) : (createFrame t p s).2 = s.bumpSeq := rfl

/-- The sequence counter advances modulo 65536 (R117). -/
theorem bumpSeq_seq_toNat (s : State) : s.bumpSeq.seq.toNat = (s.seq.toNat + 1) % 65536 := by
  rw [State.bumpSeq_seq, BitVec.toNat_add]
  rfl

/-- Settles O27: the two fields are read back from the header, whose sequence is the counter's new value. -/
theorem sequenceWrapsSilently : Obligations.SequenceWrapsSilently := by
  intro t p s hp
  have hseq : (createFrame t p s).2.seq.toNat = (s.seq.toNat + 1) % 65536 := by
    rw [createFrame_snd, bumpSeq_seq_toNat]
  have hwrap : s.seq = 0xFFFF → (createFrame t p s).2.seq = 0 := by
    intro h
    rw [createFrame_snd, State.bumpSeq_seq, h]
    rfl
  have hseqField : sequenceField s.config (createFrame t p s).1 = (s.seq.toNat + 1) % 65536 := by
    rw [createFrame_fst, sequenceField_buildHeader, ← State.bumpSeq_seq, bumpSeq_seq_toNat]
  have hlenField : lengthField s.config (createFrame t p s).1 = p.length := by
    rw [createFrame_fst, lengthField_buildHeader _ _ _ _ _ (lt_of_le_maxPayload hp)]
  exact ⟨rfl, hseq, hwrap, hseqField, hlenField⟩

/-! The direct creates. -/

/-- A direct create whose payload fits completes: the counter moves, the frame is the result, nothing is
sent (R113, R114). -/
theorem createDirect_of_fits (t : Byte) {p : List Byte} (hp : p.length ≤ maxPayload) (s : State) :
    createDirect t p s =
      .next (s.bumpSeq.markDirect.finishWith .ok
        (.frame (buildHeader s.config t (s.seq + 1) p.length ++ p))) := if_pos hp

theorem exec_encAudio (p : List Byte) (s : State) : exec (.encAudio p) s = createDirect audioType p s := rfl

theorem exec_encControl (p : List Byte) (s : State) : exec (.encControl p) s = createDirect controlType p s := rfl

/-- Settles O23: the direct create with the Audio type byte. -/
theorem encAudioCompletes : Obligations.EncAudioCompletes := by
  intro p s hp
  constructor
  · rw [exec_encAudio, createDirect_of_fits audioType hp]
    rfl
  · rfl

/-- Settles O24: the direct create with the Control type byte. -/
theorem encControlCompletes : Obligations.EncControlCompletes := by
  intro p s hp
  constructor
  · rw [exec_encControl, createDirect_of_fits controlType hp]
    rfl
  · rfl

end Sys2Proof.Machine
end

section
/-! The frame parser (R131 to R135): when it finds no frame, which record it reads otherwise, and how `PARSE`
ends in each case. -/

namespace Sys2Proof.Machine

/-! The byte ranges the parser reads (R16). -/

theorem slice_zero (d : List Byte) (n : Nat) : slice d 0 n = d.take n := rfl

theorem slice_add (d : List Byte) (a k : Nat) : slice d a (a + k) = (d.drop a).take k := by
  rw [slice, Nat.add_sub_cancel_left]

/-- A station identifier is read in the current variant alone (R91). -/
theorem stationField_eq (c : Config) (d : List Byte) :
    stationField c d =
      if c.variant = .current then some (BitVec.ofNat 48 (fromBe ((d.drop 2).take 6))) else none := by
  cases hv : c.variant with
  | current => simp only [stationField, hv, slice, if_true]
  | legacy => simp only [stationField, hv, reduceCtorEq, if_false]

/-! The two outcomes of the parser. -/

/-- Short data and a wrong marker are causes of absence (R132). -/
theorem parseFrame_eq_none {c : Config} {d : List Byte}
    (h : d.length < headerSize c ∨ d.take 2 ≠ marker c) : parseFrame c d = none := by
  rw [parseFrame, slice_zero]
  split
  case isTrue => rfl
  case isFalse hlong => rw [if_pos (h.resolve_left hlong)]

/-- Data that is long enough and begins with the marker is a frame, whose payload is clamped to the bytes that
are there (R134, R135). -/
theorem parseFrame_eq_some {c : Config} {d : List Byte}
    (hlong : headerSize c ≤ d.length) (hmark : d.take 2 = marker c) :
    parseFrame c d =
      some
        { stationId := stationField c d
          frameType := typeField c d
          sequence := BitVec.ofNat 16 (sequenceField c d)
          payloadLength := lengthField c d
          payload := (d.drop (headerSize c)).take (min (lengthField c d) (d.length - headerSize c)) } := by
  rw [parseFrame, if_neg (Nat.not_lt.mpr hlong), slice_zero, if_neg (not_not_intro hmark), slice_add]

/-! How `PARSE` ends. -/

theorem exec_parse_of_none {d : List Byte} {s : State} (h : parseFrame s.config d = none) :
    exec (.parse d) s = .next (s.finish .parseError (some .absent)) := by
  rw [exec_parse, h]
  rfl

theorem exec_parse_of_some {d : List Byte} {s : State} {f : Parsed} (h : parseFrame s.config d = some f) :
    exec (.parse d) s = .next (s.finish .ok (some (.parsed f))) := by
  rw [exec_parse, h]
  rfl

/-- Settles O17: `PARSE` ends as the parser's outcome says, and the fields are those at R91's offsets. -/
theorem parseCompletes : Obligations.ParseCompletes := by
  intro d s
  refine ⟨fun habsent => ?_, fun ⟨hlong, hmark⟩ => ?_, rfl⟩
  · exact exec_parse_of_none (parseFrame_eq_none habsent)
  · rw [exec_parse_of_some (parseFrame_eq_some hlong hmark), stationField_eq]
    rfl

end Sys2Proof.Machine
end

section
/-! The buffer validator (R145, R146): the two tests that decide the verdict, and how `VALIDATE` reports it. -/

namespace Sys2Proof.Machine

/-! The verdict: the length test, then the test for silence. -/

theorem validBuffer_of_length_ne {b : List Byte} {n : Nat} (h : b.length ≠ n) : validBuffer b n = false :=
  if_pos h

/-- At the expected length, the test for silence alone decides. -/
theorem validBuffer_length (b : List Byte) : validBuffer b b.length = !b.all (· == 0x00) := by
  rw [validBuffer, if_neg (not_not_intro rfl)]
  cases b.all (· == 0x00) with
  | true => rfl
  | false => rfl

/-- A buffer is not silent when one of its bytes is not zero; the empty buffer is silent. -/
theorem not_all_zero_iff (b : List Byte) : (!b.all (· == 0x00)) = true ↔ ∃ x ∈ b, x ≠ 0x00 := by
  simp only [Bool.not_eq_true', List.all_eq_false, beq_iff_eq, ne_eq]

/-- Settles O28: a wrong length refutes both sides, and at the right length the test for silence decides. -/
theorem validExactlyWhen : Obligations.ValidExactlyWhen := by
  intro b n
  by_cases hlen : b.length = n
  case pos =>
    subst hlen
    rw [validBuffer_length, not_all_zero_iff]
    exact (and_iff_right rfl).symm
  case neg =>
    rw [validBuffer_of_length_ne hlen]
    exact iff_of_false Bool.false_ne_true fun ⟨h, _⟩ => hlen h

/-! The instruction. -/

/-- The operand of `VALIDATE` is the three bytes of the expected length, then the buffer (R99). -/
theorem encode_validate (n : Nat) (b : List Byte) :
    encode (.validate n b) = .command (0x04 :: (be24 (b.length + 3) ++ (be24 n ++ b))) := by
  have hlen : (be24 n ++ b).length = b.length + 3 := by
    rw [List.length_append, be24_length, Nat.add_comm]
  rw [← hlen]
  rfl

/-- Settles O29: `VALIDATE` emits its verdict and ends, with no test of the state it is performed in. -/
theorem validateCompletes : Obligations.ValidateCompletes := by
  intro n b s
  constructor
  · rw [exec_validate, State.finishWith_eq, validStatus]
    rfl
  · exact encode_validate n b

end Sys2Proof.Machine
end

section
/-! The PTT state machine (R156 to R172): what a settled send does in each of its three answers, the whole
transition of a press, the paths of `AUDIO_BUF` and the one way they all end, and `SHUTDOWN`. -/

namespace Sys2Proof.Machine

open Host

/-! A settled send (R181): it completes in one way for each answer, if the counters then fit. -/

theorem settle_sendFrame_of_sent {f : List Byte} {s : State} {n : Nat} {k : Bool → State → State}
    (ho : s.transportOpen = true) (ha : transportAnswer s f = .ok n) (hn : n ≤ f.length)
    (hfit : (k true ((s.noteTransport f (.ok n)).countSent n)).CountersFit) :
    settle (sendFrame f s) k = .next (k true ((s.noteTransport f (.ok n)).countSent n)) := by
  simp only [sendFrame, ho, ha, hn, if_true, settle, commit_of_fit hfit]

theorem settle_sendFrame_of_failed {f : List Byte} {s : State} {k : Bool → State → State}
    (ho : s.transportOpen = true) (ha : transportAnswer s f = .fail)
    (hfit : (k false (s.noteTransport f .fail).countFailed).CountersFit) :
    settle (sendFrame f s) k = .next (k false (s.noteTransport f .fail).countFailed) := by
  simp only [sendFrame, ho, ha, if_true, settle, commit_of_fit hfit]

theorem settle_sendFrame_of_closed {f : List Byte} {s : State} {k : Bool → State → State}
    (ho : s.transportOpen = false) (hfit : (k false s.countFailed).CountersFit) :
    settle (sendFrame f s) k = .next (k false s.countFailed) := by
  simp only [sendFrame, ho, Bool.false_eq_true, if_false, settle, commit_of_fit hfit]

/-! The writes of a send keep the counters within their limit where there is room (R33). -/

theorem State.CountersFit.countSent {s : State} {n : Nat} (h : s.CountersFit)
    (hp : s.packetsSent < counterMax) (hb : s.bytesSent + n ≤ counterMax) : (s.countSent n).CountersFit := by
  obtain ⟨hfe, hfs, hif, hee, -, -, her⟩ := h
  exact ⟨hfe, hfs, hif, hee, hp, hb, her⟩

theorem State.CountersFit.countFailed {s : State} (h : s.CountersFit) (he : s.errors < counterMax) :
    s.countFailed.CountersFit := by
  obtain ⟨hfe, hfs, hif, hee, hps, hbs, -⟩ := h
  exact ⟨hfe, hfs, hif, hee, hps, hbs, he⟩

/-! The press. -/

/-- A press taken in `Idle` is one settled send of the start frame, after the transition (R156). -/
theorem exec_pttPress_of_idle {s : State} (hh : s.halted = false) (hi : s.pttState = .idle)
    (hm : s.config.startMarker.length ≤ maxPayload) :
    exec .pttPress s =
      settle (sendFrame (buildHeader s.config 0x03 (s.seq + 1) s.config.startMarker.length ++ s.config.startMarker)
          (s.takeEdge .transmitting .on).bumpSeq)
        (fun sent t => t.finish (sendStatus sent) none) := by
  simp only [exec, execPttPress, hh, hi, createAndSend, if_pos hm]
  rfl

/-- Settles O30, one case for each answer to the send: the transition and the frame's number are written
before it, and the send finds the transport and the counters as they were. -/
theorem pressCompletes : Obligations.PressCompletes := by
  intro s f hh hi hm hfit hf
  have hexec := exec_pttPress_of_idle hh hi hm
  rw [← hf] at hexec
  have hfit' : (s.takeEdge .transmitting .on).bumpSeq.CountersFit := hfit
  refine ⟨fun n ho ha hn hp hb => ?sent, fun ho ha he => ?failed, fun ho he => ?closed, rfl⟩
  case sent =>
    rw [hexec.trans (settle_sendFrame_of_sent ho ha hn (hfit'.countSent hp hb)), List.append_cons s.trace]
    rfl
  case failed =>
    rw [hexec.trans (settle_sendFrame_of_failed ho ha (hfit'.countFailed he)), List.append_cons s.trace]
    rfl
  case closed =>
    rw [hexec.trans (settle_sendFrame_of_closed ho (hfit'.countFailed he))]
    rfl

/-! The paths of `AUDIO_BUF`, in the order of its tests (R168). -/

theorem exec_audioBuf_of_halted (b : List Byte) {s : State} (hh : s.halted = true) :
    exec (.audioBuf b) s = .next (s.finishAudio .halted) := by
  simp only [exec, execAudioBuf, hh, if_true]

theorem exec_audioBuf_of_idle (b : List Byte) {s : State} (hh : s.halted = false) (hi : s.pttState = .idle) :
    exec (.audioBuf b) s = .next (s.finishAudio .discarded) := by
  simp only [exec, execAudioBuf, hh, hi, Bool.false_eq_true, if_false]

theorem exec_audioBuf_of_transmitting (b : List Byte) {s : State} (hh : s.halted = false)
    (ht : s.pttState = .transmitting) : exec (.audioBuf b) s = processBuffer b s := by
  simp only [exec, execAudioBuf, hh, ht, Bool.false_eq_true, if_false]

theorem processBuffer_of_invalid {b : List Byte} {s : State} (hv : validBuffer b (expectedLen s.config) = false) :
    processBuffer b s = commit (s.countInvalid.finishAudio .validationError) := by
  simp only [processBuffer, hv, Bool.false_eq_true, if_false]

theorem processBuffer_of_codec_fail {b : List Byte} {s : State}
    (hv : validBuffer b (expectedLen s.config) = true) (hc : codecAnswer s b = .fail) :
    processBuffer b s = commit ((s.noteCodec b).countEncodingError.finishAudio .encodeError) := by
  simp only [processBuffer, hv, hc, if_true]

/-- The remaining path sends a frame, and is one of the operations that `frameToSend` describes. -/
theorem frameToSend_audioBuf {b p : List Byte} {s : State} (hh : s.halted = false)
    (ht : s.pttState = .transmitting) (hv : validBuffer b (expectedLen s.config) = true)
    (hc : codecAnswer s b = .ok p) : frameToSend (.audioBuf b) s = some (createFrame audioType p s).1 := by
  simp only [frameToSend, hh, ht, hv, hc, and_self, if_true]

/-- Settles O33: the path of a buffer taken in `Idle`. -/
theorem idleBuffersAreDiscarded : Obligations.IdleBuffersAreDiscarded := by
  intro b s hh hi
  rw [exec_audioBuf_of_idle b hh hi]
  rfl

/-! Every path of `AUDIO_BUF` ends by answering `continue` (R167). -/

theorem State.finishAudio_continues (s : State) (k : Status) :
    (s.finishAudio k).trace.getLast? = some .audioContinue ∧ (s.finishAudio k).result = none := by
  simp

theorem exec_audioBuf_next {b : List Byte} {s t : State} (h : exec (.audioBuf b) s = .next t) :
    ∃ u k, t = State.finishAudio u k := by
  obtain ⟨-, rfl⟩ | ⟨-, -, rfl⟩ | ⟨-, -, hb⟩ := execAudioBuf_next h
  · exact ⟨_, _, rfl⟩
  · exact ⟨_, _, rfl⟩
  · obtain ⟨-, rfl, -⟩ | ⟨-, -, rfl, -⟩ | ⟨-, p, -, hp⟩ := processBuffer_next hb
    · exact ⟨_, _, rfl⟩
    · exact ⟨_, _, rfl⟩
    · obtain ⟨-, sent, u, -, rfl, -⟩ := transmitPacket_next hp
      exact ⟨_, _, rfl⟩

/-! An admitted operation that sends completes. -/

/-- Where the transport accepts no more than it was given, a send returns, and moves its three counters by at
most one packet, the frame's bytes, and one error. -/
theorem sendFrame_returns {f : List Byte} {s : State} (h : ∀ n, transportAnswer s f = .ok n → n ≤ f.length) :
    ∃ sent u, sendFrame f s = .ok (sent, u) ∧ u.packetsSent ≤ s.packetsSent + 1 ∧
      u.bytesSent ≤ s.bytesSent + f.length ∧ u.errors ≤ s.errors + 1 := by
  obtain ⟨-, hs⟩ | ⟨-, -, hs⟩ | ⟨-, n, -, hn, hs⟩ | ⟨-, n, ha, hn, -⟩ := sendFrame_answers f s
  · exact ⟨_, _, hs, by simp⟩
  · exact ⟨_, _, hs, by simp⟩
  · exact ⟨_, _, hs, by simpa using hn⟩
  · exact absurd (h n ha) (Nat.not_le.mpr hn)

/-- An admitted operation that sends has a next state: the counters fit after it, since none was at its limit and
`BYTES_SENT` had room for the whole frame (R33). -/
theorem exec_next_of_frameToSend {i : Instr} {f : List Byte} {s : State} (h : frameToSend i s = some f)
    (ha : Admitted i s) : ∃ t, exec i s = .next t := by
  obtain ⟨-, hpay, hsend⟩ := ha
  obtain ⟨hroom, haccept⟩ := hsend f h
  obtain ⟨audio, before, rest, -, hexec, -, hans, hbefore, hrest⟩ := exec_of_frameToSend h hpay
  obtain ⟨sent, u, hu, hps, hbs, her⟩ := sendFrame_returns (hans ▸ haccept)
  obtain ⟨-, -, -, -, -, -, hfe, hfs, hif, hee, -⟩ := sendFrame_frame hu
  have hafter := hrest sent u
  have hfit : (rest sent u).CountersFit := by
    obtain ⟨rfe, rfs, rif, ree, rps, rbs, rer⟩ := hroom
    have haudio : audio.toNat ≤ 1 := Bool.toNat_le audio
    have hsent : (audio && sent).toNat ≤ 1 := Bool.toNat_le _
    simp only [State.CountersFit, hafter.framesEncoded, hafter.framesSent, hafter.invalidFrames,
      hafter.encodingErrors, hafter.packetsSent, hafter.bytesSent, hafter.errors, hfe, hfs, hif, hee,
      hbefore.framesEncoded, hbefore.framesSent, hbefore.invalidFrames, hbefore.encodingErrors]
    rw [hbefore.packetsSent] at hps
    rw [hbefore.bytesSent] at hbs
    rw [hbefore.errors] at her
    omega
  exact ⟨rest sent u, by rw [hexec, hu]; exact commit_of_fit hfit⟩

/-! The two counts of a buffer that is not sent. -/

theorem State.HasRoom.countInvalid_fit {s : State} {n : Nat} (h : s.HasRoom n) : s.countInvalid.CountersFit := by
  obtain ⟨hfe, hfs, hif, hee, hps, hbs, her⟩ := h
  exact ⟨hfe.le, hfs.le, hif, hee.le, hps.le, Nat.le_of_add_right_le hbs, her.le⟩

theorem State.HasRoom.countEncodingError_fit {s : State} {n : Nat} (h : s.HasRoom n) :
    s.countEncodingError.CountersFit := by
  obtain ⟨hfe, hfs, hif, hee, hps, hbs, her⟩ := h
  exact ⟨hfe.le, hfs.le, hif.le, hee, hps.le, Nat.le_of_add_right_le hbs, her.le⟩

/-- An admitted buffer has a next state on each path: two count nothing, two count one buffer, and the last
is an admitted send. -/
theorem exec_audioBuf_completes {b : List Byte} {s : State} (ha : Admitted (.audioBuf b) s) :
    ∃ t, exec (.audioBuf b) s = .next t := by
  have hroom : s.HasRoom 0 := ha.1
  cases hh : s.halted with
  | true => exact ⟨_, exec_audioBuf_of_halted b hh⟩
  | false =>
    cases hp : s.pttState with
    | idle => exact ⟨_, exec_audioBuf_of_idle b hh hp⟩
    | transmitting =>
      cases hv : validBuffer b (expectedLen s.config) with
      | false =>
        rw [exec_audioBuf_of_transmitting b hh hp, processBuffer_of_invalid hv]
        exact ⟨_, commit_of_fit hroom.countInvalid_fit⟩
      | true =>
        cases hc : codecAnswer s b with
        | fail =>
          rw [exec_audioBuf_of_transmitting b hh hp, processBuffer_of_codec_fail hv hc]
          exact ⟨_, commit_of_fit hroom.countEncodingError_fit⟩
        | ok p => exact exec_next_of_frameToSend (frameToSend_audioBuf hh hp hv hc) ha

/-- Settles O36: an admitted buffer has a next state, and every next state is one that answered `continue`. -/
theorem audioBufAlwaysContinues : Obligations.AudioBufAlwaysContinues := by
  intro b s ha
  obtain ⟨t, ht⟩ := exec_audioBuf_completes ha
  obtain ⟨u, k, rfl⟩ := exec_audioBuf_next ht
  exact ⟨_, ht, u.finishAudio_continues k⟩

/-! The shutdown. -/

theorem exec_shutdown_of_running {s : State} (hh : s.halted = false) :
    exec .shutdown s = .next (s.shutDown.finish .ok none) := by
  simp only [exec, execShutdown, hh, Bool.false_eq_true, if_false]

theorem exec_shutdown_of_halted {s : State} (hh : s.halted = true) :
    exec .shutdown s = .next (s.finish .ok none) := by
  simp only [exec, execShutdown, hh, if_true]

/-- Settles O38: the first shutdown and a later one are the two branches on `HALTED`. -/
theorem shutdownCompletes : Obligations.ShutdownCompletes := by
  intro s
  refine ⟨fun hh => ?_, fun hh => ?_, rfl⟩
  · rw [exec_shutdown_of_running hh]
    rfl
  · rw [exec_shutdown_of_halted hh]
    rfl

end Sys2Proof.Machine
end

section
/-! The sender and the statistics (R181 to R191): `SEND` as one settled send on the state marked direct, how
`CLOSE` ends, and the success rate of the snapshot as the quotient R189 writes. -/

namespace Sys2Proof.Machine

open Host

/-! The send. -/

/-- A direct `SEND` is one settled send of its operand; what it returns is the send's verdict (R181). -/
theorem exec_send (f : List Byte) (s : State) :
    exec (.send f) s =
      settle (sendFrame f s.markDirect) (fun sent t => t.finish (sendStatus sent) (some (.sent sent))) := rfl

/-- Settles O39, one case for each answer to the send: the mark of a direct operation leaves the transport
and the counters as they were, so the send decides what is counted. -/
theorem sendCompletes : Obligations.SendCompletes := by
  intro f s hfit
  have hfit' : s.markDirect.CountersFit := hfit
  refine ⟨fun ho he => ?closed, fun n ho ha hn hp hb => ?sent, fun ho ha he => ?failed, rfl⟩
  case closed =>
    rw [(exec_send f s).trans (settle_sendFrame_of_closed ho (hfit'.countFailed he))]
    rfl
  case sent =>
    rw [(exec_send f s).trans (settle_sendFrame_of_sent ho ha hn (hfit'.countSent hp hb))]
    rfl
  case failed =>
    rw [(exec_send f s).trans (settle_sendFrame_of_failed ho ha (hfit'.countFailed he))]
    rfl

/-! The network-side counters and the close. -/

theorem exec_close (s : State) : exec .close s = .next (s.closeTransport.finish .ok none) := rfl

/-- Settles O41: `SND_STATS` only emits and ends, and `CLOSE` writes one register and ends, with no test of
the state they are performed in. -/
theorem sndStatsAndCloseComplete : Obligations.SndStatsAndCloseComplete := by
  intro s
  refine ⟨?stats, ?close, rfl, rfl⟩
  case stats =>
    rw [exec_sndStats, State.finishWith_eq]
    rfl
  case close =>
    rw [exec_close]
    rfl

/-! The report. -/

/-- The success rate as the quotient of R189: absent when no frame was encoded. -/
theorem successRate_eq_div (sent encoded : Nat) :
    successRate sent encoded = if 0 < encoded then some ((sent : Rat) * 100 / encoded) else none := by
  have hquot : mkRat ((sent * 100 : Nat) : Int) encoded = (sent : Rat) * 100 / encoded := by
    simp [Rat.mkRat_eq_div]
  rw [← hquot]
  rfl

/-- Settles O42: the report is the snapshot, whose rate is R189's quotient. -/
theorem reportCompletes : Obligations.ReportCompletes := by
  intro s snap hsnap
  have hsnapshot : s.snapshot = snap := by
    rw [hsnap, State.snapshot, successRate_eq_div]
  constructor
  · rw [exec_report, hsnapshot, State.finishWith_eq]
    rfl
  · rfl

end Sys2Proof.Machine
end

section
/-! The decoder and the encoder (R81, R82, R97 to R100): a packet or a frame decodes to the row its code or type
byte names, and nothing else decodes, so decoding and encoding are inverse to each other on what is well-formed. -/

namespace Sys2Proof

open Sys2Proof.Machine

/-! When an operand or a payload can be written (R88, R98). -/

theorem operandFits_iff (operand : List Byte) : operandFits operand = true ↔ operand.length < 2 ^ 24 :=
  decide_eq_true_iff

theorem validateFits_iff (n : Nat) (buffer : List Byte) :
    validateFits n buffer = true ↔ n < 2 ^ 24 ∧ buffer.length + 3 < 2 ^ 24 := by
  rw [validateFits, Bool.and_eq_true, decide_eq_true_iff, decide_eq_true_iff]

theorem payloadMatches_iff (n : BitVec 16) (p : List Byte) : payloadMatches n p = true ↔ p.length = n.toNat :=
  decide_eq_true_iff

/-! Command packets (R98, R99). -/

/-- What decodes from an operation code and an operand is encoded as the packet of the two. -/
theorem decodeOperation_ok {code : Nat} {operand : List Byte} {i : Instr} (hn : operand.length < 2 ^ 24)
    (h : decodeOperation code operand = .ok i) : encode i = packet code operand ∧ i.wellFormed = true := by
  have hfits := (operandFits_iff operand).mpr hn
  unfold decodeOperation at h
  split at h
  case h_1 | h_2 | h_3 | h_8 | h_10 =>
    cases h
    exact ⟨rfl, hfits⟩
  case h_5 =>
    obtain ⟨n, buffer, hlt, rfl, rfl⟩ := decodeValidate_ok h
    rw [List.length_append, be24_length] at hn
    exact ⟨rfl, (validateFits_iff n buffer).mpr ⟨hlt, by omega⟩⟩
  case h_14 => cases h
  all_goals
    obtain ⟨rfl, rfl⟩ := decodeNoOperand_ok h
    exact ⟨rfl, rfl⟩

/-- The operand written for a `VALIDATE` is read back (R99). -/
theorem decodeInput_validate {n : Nat} {buffer : List Byte} (hn : n < 2 ^ 24) (hb : buffer.length + 3 < 2 ^ 24) :
    decodeInput (packet 0x4 (be24 n ++ buffer)) = .ok (.validate n buffer) := by
  have hlen : (be24 n ++ buffer).length < 2 ^ 24 := by
    rw [List.length_append, be24_length]
    omega
  calc decodeInput (packet 0x4 (be24 n ++ buffer))
      = decodeValidate (be24 n ++ buffer) := decodeInput_packet (by decide) hlen
    _ = .ok (.validate n buffer) := congrArg (fun m => Except.ok (Instr.validate m buffer)) (fromBe24_be24 n hn)

/-! Bare frames (R81, R82, R97): the header as an integer of its fields. -/

/-- The header of R81 as one 112-bit integer. -/
def currentHeader (sync : BitVec 16) (station : BitVec 48) (type : Nat) (sequence length : BitVec 16) : Nat :=
  sync.toNat * 2 ^ 96 + station.toNat * 2 ^ 48 + type * 2 ^ 40 + sequence.toNat * 2 ^ 24 + length.toNat * 2 ^ 8

/-- The header of R82 as one 64-bit integer. -/
def legacyHeader (magic : BitVec 16) (type : Nat) (sequence length : BitVec 16) : Nat :=
  magic.toNat * 2 ^ 48 + type * 2 ^ 40 + sequence.toNat * 2 ^ 24 + length.toNat * 2 ^ 8

theorem currentFrame_eq (m : BitVec 16) (d : BitVec 48) (t : Nat) (q n : BitVec 16) (p : List Byte) :
    currentFrame m d t q n p = .frame .current (toBe (layoutHeaderSize .current) (currentHeader m d t q n) ++ p) := rfl

theorem legacyFrame_eq (m : BitVec 16) (t : Nat) (q n : BitVec 16) (p : List Byte) :
    legacyFrame m t q n p = .frame .legacy (toBe (layoutHeaderSize .legacy) (legacyHeader m t q n) ++ p) := rfl

/-- The row of the opcode table that a current frame's type byte names (R86, R97). -/
def currentRow (type : Nat) (m : BitVec 16) (d : BitVec 48) (q n : BitVec 16) (p : List Byte) :
    Except Reject Instr :=
  match type with
  | 0x01 => .ok (.frameAudioCurrent m d q n p)
  | 0x02 => .ok (.frameTextCurrent m d q n p)
  | 0x03 => .ok (.frameControlCurrent m d q n p)
  | 0x04 => .ok (.frameDataCurrent m d q n p)
  | _ => .error .frameType

/-- The row of the opcode table that a legacy frame's type byte names (R86, R97). -/
def legacyRow (type : Nat) (m q n : BitVec 16) (p : List Byte) : Except Reject Instr :=
  match type with
  | 0x01 => .ok (.frameAudioLegacy m q n p)
  | 0x02 => .ok (.frameTextLegacy m q n p)
  | 0x03 => .ok (.frameControlLegacy m q n p)
  | 0x04 => .ok (.frameDataLegacy m q n p)
  | _ => .error .frameType

/-- The decoder reads each field of a current header at its bits (R81). -/
theorem decodeCurrentHeader_eq (h : Nat) (p : List Byte) :
    decodeCurrentHeader h p =
      currentRow (h / 2 ^ 40 % 256) (.ofNat 16 (h / 2 ^ 96)) (.ofNat 48 (h / 2 ^ 48)) (.ofNat 16 (h / 2 ^ 24))
        (.ofNat 16 (h / 2 ^ 8)) p := rfl

/-- The decoder reads each field of a legacy header at its bits (R82). -/
theorem decodeLegacyHeader_eq (h : Nat) (p : List Byte) :
    decodeLegacyHeader h p =
      legacyRow (h / 2 ^ 40 % 256) (.ofNat 16 (h / 2 ^ 48)) (.ofNat 16 (h / 2 ^ 24)) (.ofNat 16 (h / 2 ^ 8)) p := rfl

/-- Each field of a current header is read back from its bits. -/
theorem currentHeader_fields (m : BitVec 16) (d : BitVec 48) {t : Nat} (q n : BitVec 16) (ht : t < 256) :
    currentHeader m d t q n / 2 ^ 40 % 256 = t ∧ BitVec.ofNat 16 (currentHeader m d t q n / 2 ^ 96) = m ∧
    BitVec.ofNat 48 (currentHeader m d t q n / 2 ^ 48) = d ∧ BitVec.ofNat 16 (currentHeader m d t q n / 2 ^ 24) = q ∧
    BitVec.ofNat 16 (currentHeader m d t q n / 2 ^ 8) = n := by
  obtain ⟨hm, hd, hq, hn⟩ := And.intro m.isLt (And.intro d.isLt (And.intro q.isLt n.isLt))
  simp only [currentHeader, ← BitVec.toNat_inj, BitVec.toNat_ofNat]
  refine ⟨?_, ?_, ?_, ?_, ?_⟩ <;> omega

/-- Each field of a legacy header is read back from its bits. -/
theorem legacyHeader_fields (m : BitVec 16) {t : Nat} (q n : BitVec 16) (ht : t < 256) :
    legacyHeader m t q n / 2 ^ 40 % 256 = t ∧ BitVec.ofNat 16 (legacyHeader m t q n / 2 ^ 48) = m ∧
    BitVec.ofNat 16 (legacyHeader m t q n / 2 ^ 24) = q ∧ BitVec.ofNat 16 (legacyHeader m t q n / 2 ^ 8) = n := by
  obtain ⟨hm, hq, hn⟩ := And.intro m.isLt (And.intro q.isLt n.isLt)
  simp only [legacyHeader, ← BitVec.toNat_inj, BitVec.toNat_ofNat]
  refine ⟨?_, ?_, ?_, ?_⟩ <;> omega

/-- A current frame whose payload has the declared length decodes to the row of its type. -/
theorem decodeInput_currentFrame (m : BitVec 16) (d : BitVec 48) {t : Nat} (q : BitVec 16) {n : BitVec 16}
    {p : List Byte} (ht : t < 256) (hp : p.length = n.toNat) :
    decodeInput (currentFrame m d t q n p) = currentRow t m d q n p := by
  obtain ⟨hm, hd, hq, hn⟩ := And.intro m.isLt (And.intro d.isLt (And.intro q.isLt n.isLt))
  obtain ⟨htype, hsync, hstation, hsequence, hlength⟩ := currentHeader_fields m d q n ht
  have hlt : currentHeader m d t q n < 256 ^ layoutHeaderSize .current := by
    simp only [currentHeader, layoutHeaderSize]
    omega
  have hreserved : currentHeader m d t q n % 256 = 0 := by
    simp only [currentHeader]
    omega
  have hdeclared : p.length = currentHeader m d t q n / 2 ^ 8 % 65536 := by
    simp only [currentHeader]
    omega
  rw [currentFrame_eq, decodeInput, decodeFrame_header p hlt, decodeHeader, if_pos hreserved, if_pos hdeclared]
  change decodeCurrentHeader _ p = _
  rw [decodeCurrentHeader_eq, htype, hsync, hstation, hsequence, hlength]

/-- A legacy frame whose payload has the declared length decodes to the row of its type. -/
theorem decodeInput_legacyFrame (m : BitVec 16) {t : Nat} (q : BitVec 16) {n : BitVec 16} {p : List Byte}
    (ht : t < 256) (hp : p.length = n.toNat) : decodeInput (legacyFrame m t q n p) = legacyRow t m q n p := by
  obtain ⟨hm, hq, hn⟩ := And.intro m.isLt (And.intro q.isLt n.isLt)
  obtain ⟨htype, hmagic, hsequence, hlength⟩ := legacyHeader_fields m q n ht
  have hlt : legacyHeader m t q n < 256 ^ layoutHeaderSize .legacy := by
    simp only [legacyHeader, layoutHeaderSize]
    omega
  have hreserved : legacyHeader m t q n % 256 = 0 := by
    simp only [legacyHeader]
    omega
  have hdeclared : p.length = legacyHeader m t q n / 2 ^ 8 % 65536 := by
    simp only [legacyHeader]
    omega
  rw [legacyFrame_eq, decodeInput, decodeFrame_header p hlt, decodeHeader, if_pos hreserved, if_pos hdeclared]
  change decodeLegacyHeader _ p = _
  rw [decodeLegacyHeader_eq, htype, hmagic, hsequence, hlength]

/-- Settles O5: every operation is one packet, and every frame row one frame of its type. -/
theorem decodeOfEncode : Obligations.DecodeOfEncode := by
  intro i hi
  cases i with
  | encAudio | encControl | parse | audioBuf | send =>
    rw [Instr.wellFormed, operandFits_iff] at hi
    exact decodeInput_packet (by decide) hi
  | seqRead | pttPress | pttRelease | shutdown | sndStats | close | report =>
    exact decodeInput_packet (by decide) (by decide)
  | validate n buffer =>
    obtain ⟨hn, hb⟩ := (validateFits_iff n buffer).mp hi
    exact decodeInput_validate hn hb
  | frameAudioCurrent | frameTextCurrent | frameControlCurrent | frameDataCurrent =>
    rw [Instr.wellFormed, payloadMatches_iff] at hi
    exact decodeInput_currentFrame _ _ _ (by decide) hi
  | frameAudioLegacy | frameTextLegacy | frameControlLegacy | frameDataLegacy =>
    rw [Instr.wellFormed, payloadMatches_iff] at hi
    exact decodeInput_legacyFrame _ _ (by decide) hi

/-! What decodes was encoded. -/

theorem encode_of_currentRow {t : Nat} {m : BitVec 16} {d : BitVec 48} {q n : BitVec 16} {p : List Byte} {i : Instr}
    (hp : p.length = n.toNat) (h : currentRow t m d q n p = .ok i) :
    encode i = currentFrame m d t q n p ∧ i.wellFormed = true := by
  have hfits := (payloadMatches_iff n p).mpr hp
  unfold currentRow at h
  split at h
  case h_5 => cases h
  all_goals
    cases h
    exact ⟨rfl, hfits⟩

theorem encode_of_legacyRow {t : Nat} {m q n : BitVec 16} {p : List Byte} {i : Instr}
    (hp : p.length = n.toNat) (h : legacyRow t m q n p = .ok i) :
    encode i = legacyFrame m t q n p ∧ i.wellFormed = true := by
  have hfits := (payloadMatches_iff n p).mpr hp
  unfold legacyRow at h
  split at h
  case h_5 => cases h
  all_goals
    cases h
    exact ⟨rfl, hfits⟩

/-- A 112-bit integer with a zero reserved byte is the header of the fields read from it. -/
theorem currentHeader_of_fields {h : Nat} (hh : h < 256 ^ 14) (h0 : h % 256 = 0) :
    currentHeader (.ofNat 16 (h / 2 ^ 96)) (.ofNat 48 (h / 2 ^ 48)) (h / 2 ^ 40 % 256) (.ofNat 16 (h / 2 ^ 24))
      (.ofNat 16 (h / 2 ^ 8)) = h := by
  simp only [currentHeader, BitVec.toNat_ofNat]
  omega

/-- A 64-bit integer with a zero reserved byte is the header of the fields read from it. -/
theorem legacyHeader_of_fields {h : Nat} (hh : h < 256 ^ 8) (h0 : h % 256 = 0) :
    legacyHeader (.ofNat 16 (h / 2 ^ 48)) (h / 2 ^ 40 % 256) (.ofNat 16 (h / 2 ^ 24)) (.ofNat 16 (h / 2 ^ 8)) = h := by
  simp only [legacyHeader, BitVec.toNat_ofNat]
  omega

theorem encode_of_decodeFrame {layout : Variant} {bytes : List Byte} {i : Instr}
    (h : decodeFrame layout bytes = .ok i) : encode i = .frame layout bytes ∧ i.wellFormed = true := by
  obtain ⟨x, p, hx, hd, rfl⟩ := decodeFrame_ok h
  obtain ⟨hres, hlen, ⟨rfl, hc⟩ | ⟨rfl, hl⟩⟩ := decodeHeader_ok hd
  case inl =>
    have henc := encode_of_currentRow hlen (decodeCurrentHeader_eq x p ▸ hc)
    rwa [currentFrame_eq, currentHeader_of_fields hx hres] at henc
  case inr =>
    have henc := encode_of_legacyRow hlen (decodeLegacyHeader_eq x p ▸ hl)
    rwa [legacyFrame_eq, legacyHeader_of_fields hx hres] at henc

/-- Settles O6, one case for each form of input. -/
theorem encodeOfDecode : Obligations.EncodeOfDecode := by
  intro x i h
  cases x with
  | command bytes =>
    obtain ⟨code, operand, -, hn, hop, hbytes⟩ := decodeCommand_ok h
    exact hbytes ▸ decodeOperation_ok hn hop
  | frame layout bytes => exact encode_of_decodeFrame h

/-- Settles O7: each of the five packets is the encoding of its operation. -/
theorem specPacketsDecode : Obligations.SpecPacketsDecode :=
  ⟨decodeOfEncode (.encAudio [0xAA, 0xBB]) rfl, decodeOfEncode (.encControl defaultStartMarker) rfl,
    decodeOfEncode (.validate 4 [0x00, 0x00, 0x00, 0x01]) rfl, decodeOfEncode .pttPress rfl,
    decodeOfEncode (.audioBuf [0x01, 0x00, 0x02, 0x00]) rfl⟩

/-! What does not decode. -/

/-- A packet that decodes has a zero high nibble, exactly the declared operand, and an operation for its code. -/
theorem decodeCommand_cons_ok {head hi mid lo : Byte} {operand : List Byte} {i : Instr}
    (h : decodeCommand (head :: hi :: mid :: lo :: operand) = .ok i) :
    head.toNat < 16 ∧ operand.length = fromBe24 hi mid lo ∧ decodeOperation head.toNat operand = .ok i := by
  simp only [decodeCommand] at h
  split at h
  · cases h
  split at h
  · cases h
  split at h
  · cases h
  exact ⟨by omega, by omega, h⟩

/-- An input that decodes to no instruction is rejected with a reason. -/
theorem decodeInput_error {x : Input} (h : ∀ i, decodeInput x ≠ .ok i) : ∃ r, decodeInput x = .error r := by
  cases hx : decodeInput x with
  | ok i => exact absurd hx (h i)
  | error r => exact ⟨r, rfl⟩

/-- The conditions of R100 on a packet's bytes, under which it spells nothing. -/
def Malformed (head hi mid lo : Byte) (operand : List Byte) : Prop :=
  16 ≤ head.toNat ∨ head = 0x05 ∨ head = 0x06 ∨ head = 0x07 ∨
    operand.length < fromBe24 hi mid lo ∨
    (head ∈ [0x03, 0x08, 0x09, 0x0B, 0x0D, 0x0E, 0x0F] ∧ fromBe24 hi mid lo ≠ 0) ∨
    (head = 0x04 ∧ fromBe24 hi mid lo < 3)

theorem decodeCommand_of_malformed {head hi mid lo : Byte} {operand : List Byte}
    (h : Malformed head hi mid lo operand) (i : Instr) :
    decodeCommand (head :: hi :: mid :: lo :: operand) ≠ .ok i := by
  intro hd
  obtain ⟨hhead, hlen, hop⟩ := decodeCommand_cons_ok hd
  obtain hnib | rfl | rfl | rfl | hshort | ⟨hmem, hne⟩ | ⟨rfl, hthree⟩ := h
  · exact absurd hnib (Nat.not_le.mpr hhead)
  · cases hop
  · cases hop
  · cases hop
  · exact absurd hlen hshort.ne
  · have hempty : operand = [] := by
      simp only [List.mem_cons, List.not_mem_nil, or_false] at hmem
      obtain rfl | rfl | rfl | rfl | rfl | rfl | rfl := hmem
      all_goals exact (decodeNoOperand_ok hop).2
    exact hne (by rw [← hlen, hempty]; rfl)
  · obtain ⟨n, buffer, -, -, rfl⟩ := decodeValidate_ok hop
    rw [List.length_append, be24_length] at hlen
    omega

end Sys2Proof

namespace Sys2Proof.Machine

/-! What a step does with the next line (R25, R56, R100). -/

theorem step_of_decoded {s : State} {l : Line} {rest : List Line} {i : Instr} (hs : s.script = l :: rest)
    (hd : decodeInput l.input = .ok i) : step s = exec i (s.take l rest) := by
  simp only [step, hs, hd]

theorem step_of_rejected {s : State} {l : Line} {rest : List Line} {r : Reject} (hs : s.script = l :: rest)
    (hd : decodeInput l.input = .error r) :
    step s = .next { s.take l rest with status := .illegalOp, result := none } := by
  simp only [step, hs, hd]
  rfl

theorem step_of_idle {s : State} (hs : s.script = []) : step s = .next s := by
  simp only [step, hs]

/-- Settles O8: a malformed packet spells no operation, so the step rejects it. -/
theorem malformedPacketsAreAnsweredIllegalOp : Obligations.MalformedPacketsAreAnsweredIllegalOp := by
  intro head hi mid lo operand s l rest hbad hs hl
  obtain ⟨r, hr⟩ := decodeInput_error (x := .command (head :: hi :: mid :: lo :: operand))
    (decodeCommand_of_malformed hbad)
  rw [← hl] at hr
  exact ⟨⟨r, hr⟩, step_of_rejected hs hr, rfl⟩

/-- Settles O9: a packet that decodes has a head of four bytes and no more than its operand after it. -/
theorem shortAndSurplusPacketsAreAnsweredIllegalOp : Obligations.ShortAndSurplusPacketsAreAnsweredIllegalOp := by
  intro bytes s l rest hbad hs hl
  have hnone : ∀ i, decodeCommand bytes ≠ .ok i := by
    intro i hd
    obtain hshort | ⟨head, hi, mid, lo, operand, rfl, hsurplus⟩ := hbad
    · match bytes, hd with
      | _ :: _ :: _ :: _ :: operand, _ =>
        simp only [List.length_cons] at hshort
        omega
    · obtain ⟨-, hlen, -⟩ := decodeCommand_cons_ok hd
      exact absurd hlen hsurplus.ne'
  obtain ⟨r, hr⟩ := decodeInput_error (x := .command bytes) hnone
  exact step_of_rejected hs (hl ▸ hr)

/-- Settles O10. -/
theorem stepRunsThePresentedOperation : Obligations.StepRunsThePresentedOperation :=
  ⟨fun _ _ _ _ => step_of_decoded, fun _ => step_of_idle⟩

theorem decodeTableWord_some {nbits w : Nat} {i : Instr} (h : decodeTableWord nbits w = some i) :
    decodeInput (tableInput nbits w) = .ok i := by
  unfold decodeTableWord at h
  split at h
  · cases h
    assumption
  · cases h

/-- Settles O11: the placed line is the script's head, and its input is the table's. -/
theorem placedWordRunsNext : Obligations.PlacedWordRunsNext := by
  intro s nbits w i h
  exact step_of_decoded (s := s.withFetchWord nbits w) (l := tableLine nbits w) rfl (decodeTableWord_some h)

end Sys2Proof.Machine
end

section
/-! Frames written and read (R91, R110, R111, R131 to R138): the header byte by byte, the frame rows of the opcode
table as built headers, and what the parser reads from any data that begins with a built header. -/

namespace Sys2Proof.Machine

open Host

/-! The header byte by byte (R111). -/

theorem be16_map_toNat {v : Nat} (h : v < 65536) : (be16 v).map BitVec.toNat = [v / 256, v % 256] := by
  simp only [be16, List.map_cons, List.map_nil, BitVec.toNat_ofNat, List.cons.injEq, and_true]
  omega

theorem stationBytes_map_toNat (c : Config) :
    (stationBytes c).map BitVec.toNat =
      [c.stationId.toNat / 256 ^ 5, c.stationId.toNat / 256 ^ 4 % 256, c.stationId.toNat / 256 ^ 3 % 256,
        c.stationId.toNat / 256 ^ 2 % 256, c.stationId.toNat / 256 % 256, c.stationId.toNat % 256] := by
  have hlt := c.stationId.isLt
  simp only [stationBytes, toBe, List.nil_append, List.cons_append, List.map_cons, List.map_nil, BitVec.toNat_ofNat,
    List.cons.injEq, and_true]
  omega

/-- Settles O13: each field of the header is written big-endian. -/
theorem headerByteByByte : Obligations.HeaderByteByByte := by
  intro c t q n hn
  have hlen := be16_map_toNat (lt_of_le_maxPayload hn)
  have hseq := be16_map_toNat q.isLt
  constructor
  · intro hv
    simp only [buildHeader_current hv, List.map_append, be16_map_toNat c.syncWord.isLt, stationBytes_map_toNat, hseq,
      hlen]
    rfl
  · intro hv
    simp only [buildHeader_legacy hv, List.map_append, be16_map_toNat c.legacyMagic.isLt, hseq, hlen]
    rfl

/-! The frame rows of the opcode table as built headers. -/

/-- The configuration with another station identifier, which the parser does not read. -/
def withStation (c : Config) (d : BitVec 48) : Config := { c with stationId := d }

theorem parseFrame_withStation (c : Config) (d : BitVec 48) (data : List Byte) :
    parseFrame (withStation c d) data = parseFrame c data := rfl

/-- A current-layout row with the machine's sync word is a header that the machine, with the row's station, builds. -/
theorem currentFrame_eq_buildHeader {c : Config} (hv : c.variant = .current) (d : BitVec 48) {t : Nat} (ht : t < 256)
    (q n : BitVec 16) (p : List Byte) :
    currentFrame c.syncWord d t q n p =
      .frame .current (buildHeader (withStation c d) (BitVec.ofNat 8 t) q n.toNat ++ p) := by
  rw [currentFrame, toBe_currentHeader _ _ _ _ _ ht, buildHeader_current (c := withStation c d) hv]
  rfl

/-- A legacy-layout row with the machine's magic is a header that the machine builds. -/
theorem legacyFrame_eq_buildHeader {c : Config} (hv : c.variant = .legacy) {t : Nat} (ht : t < 256)
    (q n : BitVec 16) (p : List Byte) :
    legacyFrame c.legacyMagic t q n p = .frame .legacy (buildHeader c (BitVec.ofNat 8 t) q n.toNat ++ p) := by
  rw [legacyFrame, toBe_legacyHeader _ _ _ _ ht, buildHeader_legacy hv]

/-- Settles O14: the row's header is built with the counter's new value and the payload's length. -/
theorem createdFrameIsTheTablesFrame : Obligations.CreatedFrameIsTheTablesFrame := by
  intro p s hp
  have hlen : (BitVec.ofNat 16 p.length).toNat = p.length :=
    (BitVec.toNat_ofNat _ _).trans (Nat.mod_eq_of_lt (lt_of_le_maxPayload hp))
  have current (hv : s.config.variant = .current) {t : Nat} (ht : t < 256) :
      Input.frame .current (createFrame (BitVec.ofNat 8 t) p s).1 =
        currentFrame s.config.syncWord s.config.stationId t (s.seq + 1) (BitVec.ofNat 16 p.length) p := by
    rw [currentFrame_eq_buildHeader hv _ ht, hlen]
    rfl
  have legacy (hv : s.config.variant = .legacy) {t : Nat} (ht : t < 256) :
      Input.frame .legacy (createFrame (BitVec.ofNat 8 t) p s).1 =
        legacyFrame s.config.legacyMagic t (s.seq + 1) (BitVec.ofNat 16 p.length) p := by
    rw [legacyFrame_eq_buildHeader hv ht, hlen]
    rfl
  exact ⟨fun hv => ⟨current hv (t := 1) (by decide), current hv (t := 3) (by decide)⟩,
    fun hv => ⟨legacy hv (t := 1) (by decide), legacy hv (t := 3) (by decide)⟩⟩

/-! The parser on a built header (R138 a). -/

theorem take_two_buildHeader (c : Config) (t : Byte) (q : BitVec 16) (n : Nat) (p : List Byte) :
    (buildHeader c t q n ++ p).take 2 = marker c := by
  cases hv : c.variant with
  | current => simp only [buildHeader_current hv, marker, hv]; rfl
  | legacy => simp only [buildHeader_legacy hv, marker, hv]; rfl

theorem typeField_buildHeader (c : Config) (t : Byte) (q : BitVec 16) (n : Nat) (p : List Byte) :
    typeField c (buildHeader c t q n ++ p) = t := by
  cases hv : c.variant with
  | current => simp only [buildHeader_current hv, typeField, typeOff, hv]; rfl
  | legacy => simp only [buildHeader_legacy hv, typeField, typeOff, hv]; rfl

theorem stationField_buildHeader (c : Config) (t : Byte) (q : BitVec 16) (n : Nat) (p : List Byte) :
    stationField c (buildHeader c t q n ++ p) = if c.variant = .current then some c.stationId else none := by
  cases hv : c.variant with
  | current =>
    have hbytes : slice (buildHeader c t q n ++ p) 2 8 = stationBytes c := by
      rw [buildHeader_current hv]
      rfl
    have hlt : c.stationId.toNat < 256 ^ 6 := c.stationId.isLt
    rw [stationField, hv, if_pos rfl]
    simp only [hbytes, stationBytes, fromBe_toBe, Nat.mod_eq_of_lt hlt, BitVec.ofNat_toNat, BitVec.setWidth_eq]
  | legacy => simp only [stationField, hv, reduceCtorEq, if_false]

/-- Data that begins with a built header is parsed: the fields are those built in, the payload is the data after the
header, clamped to the declared length (R131, R135). -/
theorem parseFrame_buildHeader (c : Config) (t : Byte) (q : BitVec 16) {n : Nat} (hn : n < 65536) (p : List Byte) :
    parseFrame c (buildHeader c t q n ++ p) =
      some
        { stationId := if c.variant = .current then some c.stationId else none
          frameType := t
          sequence := q
          payloadLength := n
          payload := p.take n } := by
  have hhead := buildHeader_length c t q n
  have hdata : (buildHeader c t q n ++ p).length = headerSize c + p.length := by rw [List.length_append, hhead]
  rw [parseFrame_eq_some (hdata ▸ Nat.le_add_right _ _) (take_two_buildHeader c t q n p), stationField_buildHeader,
    typeField_buildHeader, sequenceField_buildHeader, lengthField_buildHeader c t q n p hn, List.drop_left' hhead,
    hdata, Nat.add_sub_cancel_left, BitVec.ofNat_toNat, BitVec.setWidth_eq, ← List.take_eq_take_min]

/-- Settles O15: a created frame is a built header and the whole payload it declares. -/
theorem parseOfCreatedFrame : Obligations.ParseOfCreatedFrame := by
  intro t p s hp
  rw [createFrame_fst, parseFrame_buildHeader _ _ _ (lt_of_le_maxPayload hp), List.take_length]
  rfl

/-! Absence, and data with one header (R131 to R133, R138 b and c). -/

/-- Settles O16: short data and a wrong marker are absent, and every other data is parsed. -/
theorem parseAbsentExactlyWhen : Obligations.ParseAbsentExactlyWhen := by
  intro c d
  refine ⟨fun h => ?_, parseFrame_eq_none⟩
  by_contra hfine
  obtain ⟨hlong, hmark⟩ := not_or.mp hfine
  rw [parseFrame_eq_some (Nat.not_lt.mp hlong) (not_not.mp hmark)] at h
  cases h

/-- The reserved byte is the last one of the header, after every field (R81, R82). -/
theorem headerSize_eq (c : Config) : headerSize c = typeOff c + 6 ∧ 2 ≤ typeOff c := by
  cases hv : c.variant with
  | current => simp [headerSize, typeOff, hv]
  | legacy => simp [headerSize, typeOff, hv]

theorem take_congr_of_le {d e : List Byte} {m k : Nat} (h : e.take m = d.take m) (hk : k ≤ m) :
    e.take k = d.take k := by
  rw [← Nat.min_eq_left hk, ← List.take_take, h, List.take_take]

theorem byteAt_congr {d e : List Byte} {m i : Nat} (h : e.take m = d.take m) (hi : i < m) :
    byteAt e i = byteAt d i := by
  rw [byteAt, byteAt, List.getD_eq_getElem?_getD, List.getD_eq_getElem?_getD, ← List.getElem?_take_of_lt hi, h,
    List.getElem?_take_of_lt hi]

/-- The marker and the fields are read from the header before the reserved byte. -/
theorem fields_congr {c : Config} {d e : List Byte} (h : e.take (headerSize c - 1) = d.take (headerSize c - 1)) :
    e.take 2 = d.take 2 ∧ stationField c e = stationField c d ∧ typeField c e = typeField c d ∧
    sequenceField c e = sequenceField c d ∧ lengthField c e = lengthField c d := by
  obtain ⟨hsize, hoff⟩ := headerSize_eq c
  have hbyte {i : Nat} (hi : i ≤ 4) : byteAt e (typeOff c + i) = byteAt d (typeOff c + i) :=
    byteAt_congr h (by omega)
  refine ⟨take_congr_of_le h (by omega), ?station, hbyte (i := 0) (by decide), ?sequence, ?length⟩
  case station =>
    cases hv : c.variant with
    | current =>
      have height : e.take 8 = d.take 8 := take_congr_of_le h (by simp [headerSize, hv])
      simp only [stationField, hv, slice, List.take_drop, height]
    | legacy => simp only [stationField, hv]
  case sequence => rw [sequenceField, sequenceField, hbyte (by decide), hbyte (by decide)]
  case length => rw [lengthField, lengthField, hbyte (by decide), hbyte (by decide)]

/-- Data that agrees before the reserved byte, and in its length and payload bytes, parses alike. -/
theorem parseFrame_congr {c : Config} {d e : List Byte} (hlen : headerSize c ≤ e.length ↔ headerSize c ≤ d.length)
    (hhead : e.take (headerSize c - 1) = d.take (headerSize c - 1))
    (hpay : headerSize c ≤ d.length →
      (e.drop (headerSize c)).take (lengthField c d) = (d.drop (headerSize c)).take (lengthField c d)) :
    parseFrame c e = parseFrame c d := by
  obtain ⟨hmark, hstation, htype, hsequence, hlength⟩ := fields_congr hhead
  by_cases hd : headerSize c ≤ d.length ∧ d.take 2 = marker c
  case pos =>
    obtain ⟨hlong, hm⟩ := hd
    rw [parseFrame_eq_some hlong hm, parseFrame_eq_some (hlen.mpr hlong) (hmark.trans hm), hstation, htype, hsequence,
      hlength, ← List.length_drop, ← List.length_drop, ← List.take_eq_take_min, ← List.take_eq_take_min, hpay hlong]
  case neg =>
    have habsent : d.length < headerSize c ∨ d.take 2 ≠ marker c := by
      rwa [← Nat.not_le, ← not_and_or]
    rw [parseFrame_eq_none habsent, parseFrame_eq_none (habsent.imp (fun h => ?_) (fun h => hmark ▸ h))]
    exact Nat.not_le.mp (fun he => Nat.not_le.mpr h (hlen.mp he))

/-- The reserved byte is not read (R138 b). -/
theorem parseFrame_set_reserved (c : Config) (d : List Byte) (x : Byte) :
    parseFrame c (d.set (headerSize c - 1) x) = parseFrame c d := by
  obtain ⟨hsize, -⟩ := headerSize_eq c
  refine parseFrame_congr (by rw [List.length_set]) (List.take_set_of_le (Nat.le_refl _)) (fun _ => ?_)
  rw [List.drop_set_of_lt (by omega)]

/-- Settles O18: the parser reads neither the reserved byte nor anything after the clamped payload. -/
theorem parseIgnoresReservedAndTrailingBytes : Obligations.ParseIgnoresReservedAndTrailingBytes := by
  intro c d
  refine ⟨parseFrame_set_reserved c d, fun hlong => parseFrame_congr ?_ ?_ (fun _ => ?_)⟩
  · rw [List.length_take]
    omega
  · rw [List.take_take, Nat.min_eq_left (by omega)]
  · rw [List.drop_take, Nat.add_sub_cancel_left, ← List.length_drop, ← List.take_eq_take_min, List.take_take,
      Nat.min_self]

/-- Settles O19: the header stays what it was, and the clamped payload begins the longer one. -/
theorem parseOfExtendedData : Obligations.ParseOfExtendedData := by
  intro c d x f hf
  have hpresent : headerSize c ≤ d.length ∧ d.take 2 = marker c := by
    by_contra habsent
    rw [not_and_or, Nat.not_le] at habsent
    rw [parseFrame_eq_none habsent] at hf
    cases hf
  obtain ⟨hlong, hm⟩ := hpresent
  obtain ⟨hmark, hstation, htype, hsequence, hlength⟩ :=
    fields_congr (c := c) (d := d) (e := d ++ x) (List.take_append_of_le_length (by omega))
  have hlong' : headerSize c ≤ (d ++ x).length := by
    rw [List.length_append]
    omega
  rw [parseFrame_eq_some hlong hm] at hf
  cases hf
  refine ⟨_, parseFrame_eq_some hlong' (hmark.trans hm), hstation, htype, by rw [hsequence], hlength, ?_⟩
  rw [hlength, ← List.length_drop, ← List.length_drop, ← List.take_eq_take_min, ← List.take_eq_take_min,
    List.drop_append_of_le_length hlong]
  exact (List.prefix_append _ x).take _

/-! Bare frames are parsed (R93, R97). -/

/-- A bare frame ends as parsing its bytes does. -/
theorem parseData_of_some {d : List Byte} {s : State} {f : Parsed} (h : parseFrame s.config d = some f) :
    parseData d s = .next { s with status := .ok, result := some (.parsed f) } := exec_parse_of_some h

theorem parseData_currentFrame {s : State} (hv : s.config.variant = .current) (d : BitVec 48) {t : Nat} (ht : t < 256)
    (q : BitVec 16) {n : BitVec 16} {p : List Byte} (hp : p.length = n.toNat) :
    parseData (inputBytes (currentFrame s.config.syncWord d t q n p)) s =
      .next { s with status := .ok, result := some (.parsed ⟨some d, BitVec.ofNat 8 t, q, n.toNat, p⟩) } := by
  refine parseData_of_some ?_
  rw [currentFrame_eq_buildHeader hv d ht, inputBytes, ← parseFrame_withStation s.config d,
    parseFrame_buildHeader _ _ _ n.isLt, ← hp, List.take_length,
    if_pos (show (withStation s.config d).variant = .current from hv)]
  rfl

theorem parseData_legacyFrame {s : State} (hv : s.config.variant = .legacy) {t : Nat} (ht : t < 256)
    (q : BitVec 16) {n : BitVec 16} {p : List Byte} (hp : p.length = n.toNat) :
    parseData (inputBytes (legacyFrame s.config.legacyMagic t q n p)) s =
      .next { s with status := .ok, result := some (.parsed ⟨none, BitVec.ofNat 8 t, q, n.toNat, p⟩) } := by
  refine parseData_of_some ?_
  rw [legacyFrame_eq_buildHeader hv ht, inputBytes, parseFrame_buildHeader _ _ _ n.isLt, ← hp, List.take_length,
    if_neg (by rw [hv]; decide)]

/-- Settles O20, one case for each type. -/
theorem currentFramesComplete : Obligations.CurrentFramesComplete := by
  intro s d q n p hv hp
  exact ⟨parseData_currentFrame hv d (t := 1) (by decide) q hp, parseData_currentFrame hv d (t := 2) (by decide) q hp,
    parseData_currentFrame hv d (t := 3) (by decide) q hp, parseData_currentFrame hv d (t := 4) (by decide) q hp⟩

/-- Settles O21, one case for each type. -/
theorem legacyFramesComplete : Obligations.LegacyFramesComplete := by
  intro s q n p hv hp
  exact ⟨parseData_legacyFrame hv (t := 1) (by decide) q hp, parseData_legacyFrame hv (t := 2) (by decide) q hp,
    parseData_legacyFrame hv (t := 3) (by decide) q hp, parseData_legacyFrame hv (t := 4) (by decide) q hp⟩

/-- Six station bytes as the type, sequence, length and reserved byte that a legacy machine reads there. -/
theorem toBe_six_as_legacy_fields (v : Nat) :
    toBe 6 v = [BitVec.ofNat 8 (v / 2 ^ 40)] ++ be16 (BitVec.ofNat 16 (v / 2 ^ 24)).toNat ++ be16 (v / 2 ^ 8 % 65536) ++
      [BitVec.ofNat 8 v] := by
  simp only [toBe, be16, List.nil_append, List.cons_append, List.cons.injEq, ← BitVec.toNat_inj, BitVec.toNat_ofNat,
    and_true]
  omega

/-- In a legacy machine with the same marker, a current frame is the legacy header of those fields, but for the
reserved byte, and the rest of the frame. -/
theorem currentFrame_as_legacy {c : Config} (hv : c.variant = .legacy) (d : BitVec 48) {t : Nat} (ht : t < 256)
    (q n : BitVec 16) (p : List Byte) :
    inputBytes (currentFrame c.legacyMagic d t q n p) =
      (buildHeader c (BitVec.ofNat 8 (d.toNat / 2 ^ 40)) (BitVec.ofNat 16 (d.toNat / 2 ^ 24)) (d.toNat / 2 ^ 8 % 65536)
        ++ ([BitVec.ofNat 8 t] ++ be16 q.toNat ++ be16 n.toNat ++ [0x00] ++ p)).set (headerSize c - 1)
          (BitVec.ofNat 8 d.toNat) := by
  rw [currentFrame, toBe_currentHeader _ _ _ _ _ ht, toBe_six_as_legacy_fields, buildHeader_legacy hv, headerSize, hv]
  rfl

theorem parseData_misread {s : State} (hv : s.config.variant = .legacy) (d : BitVec 48) {t : Nat} (ht : t < 256)
    (q n : BitVec 16) (p : List Byte) :
    parseData (inputBytes (currentFrame s.config.legacyMagic d t q n p)) s =
      .next { s with
        status := .ok
        result := some (.parsed
          { stationId := none
            frameType := BitVec.ofNat 8 (d.toNat / 2 ^ 40)
            sequence := BitVec.ofNat 16 (d.toNat / 2 ^ 24)
            payloadLength := d.toNat / 2 ^ 8 % 65536
            payload := ([BitVec.ofNat 8 t] ++ be16 q.toNat ++ be16 n.toNat ++ [0x00] ++ p).take
              (d.toNat / 2 ^ 8 % 65536) }) } := by
  refine parseData_of_some ?_
  rw [currentFrame_as_legacy hv d ht, parseFrame_set_reserved, parseFrame_buildHeader _ _ _ (Nat.mod_lt _ (by decide)),
    if_neg (by rw [hv]; decide)]

/-- Settles O22, one case for each type: the station's bytes are read as the legacy fields. -/
theorem legacyMachineMisreadsCurrentFrame : Obligations.LegacyMachineMisreadsCurrentFrame := by
  rintro s d q n p hv misread rfl
  exact ⟨parseData_misread hv d (t := 1) (by decide) q n p, parseData_misread hv d (t := 2) (by decide) q n p,
    parseData_misread hv d (t := 3) (by decide) q n p, parseData_misread hv d (t := 4) (by decide) q n p⟩

end Sys2Proof.Machine
end

section
/-! Construction and reset (R148, R230 to R236): when a configuration is accepted, what its expected length is, and
what holds of the state that construction answers. -/

namespace Sys2Proof.Machine

open Host

/-! The expected length (R148). -/

theorem lengthIsWhole_iff (c : Config) : lengthIsWhole c = true ↔ 1000 ∣ c.sampleRate.val * c.frameMs.val := by
  rw [lengthIsWhole, decide_eq_true_iff, Nat.dvd_iff_mod_eq_zero]

/-- The sample count of an accepted configuration is an exact, positive quotient (R14, R169). -/
theorem sampleCount_of_whole {c : Config} (h : lengthIsWhole c = true) :
    c.sampleRate.val * c.frameMs.val = 1000 * sampleCount c ∧ 0 < sampleCount c := by
  have hexact : 1000 * sampleCount c = c.sampleRate.val * c.frameMs.val :=
    Nat.mul_div_cancel' ((lengthIsWhole_iff c).mp h)
  have hpos : 0 < c.sampleRate.val * c.frameMs.val := Nat.mul_pos c.sampleRate.property c.frameMs.property
  exact ⟨hexact.symm, by omega⟩

/-- Settles O4: with the product written as 1000 sample counts, every order of division cancels the same factor. -/
theorem expectedLengthInEveryOrder : Obligations.ExpectedLengthInEveryOrder := by
  intro c h
  obtain ⟨hexact, hpos⟩ := sampleCount_of_whole h
  have hproduct :
      c.sampleRate.val * c.frameMs.val * bytesPerSample * c.channels.val = 1000 * expectedLen c := by
    rw [hexact, expectedLen, Nat.mul_assoc, Nat.mul_assoc, Nat.mul_assoc]
  refine ⟨hproduct.symm, ?_, ?_, Nat.mul_pos (Nat.mul_pos hpos (by decide)) c.channels.property⟩
  · rw [hproduct, Nat.mul_div_cancel_left _ (by decide)]
  · rw [hexact, Nat.mul_assoc 1000, Nat.mul_div_cancel_left _ (by decide), expectedLen]

/-! Construction (R236). -/

theorem construct_of_accepted {c : Config} {e : Nat} {codecInit audioInit : Bool} (hc : codecInit = true)
    (ha : audioInit = true) (hl : lengthIsWhole c = true) :
    construct c e codecInit audioInit = .ok (State.initial c e) := by
  rw [construct, hc, ha, hl]
  rfl

theorem construct_of_not_accepted {c : Config} {e : Nat} {codecInit audioInit : Bool}
    (h : ¬ (codecInit = true ∧ audioInit = true ∧ lengthIsWhole c = true)) :
    construct c e codecInit audioInit = .error .configurationError := by
  refine if_neg (fun hall => h ?_)
  rwa [Bool.and_eq_true, Bool.and_eq_true, and_assoc] at hall

/-- Settles O2. -/
theorem constructionSucceedsExactlyWhen : Obligations.ConstructionSucceedsExactlyWhen := by
  intro c e codecInit audioInit
  rw [← lengthIsWhole_iff]
  exact ⟨fun ⟨hc, ha, hl⟩ => construct_of_accepted hc ha hl, construct_of_not_accepted⟩

/-- Construction answers the initial state of its configuration, or no state. -/
theorem construct_ok {c : Config} {e : Nat} {codecInit audioInit : Bool} {s : State}
    (h : construct c e codecInit audioInit = .ok s) : s = State.initial c e := by
  unfold construct at h
  split at h
  · cases h
    rfl
  · cases h

/-- Settles O1. -/
theorem resetLeavesInitialRegisters : Obligations.ResetLeavesInitialRegisters := by
  refine ⟨fun c e codecInit audioInit s h => ?_, rfl⟩
  rw [construct_ok h]
  exact ⟨rfl, rfl⟩

/-- A rate counted in steps of `1000 / gcd(f, 1000)` makes a whole number of samples in `f` milliseconds. -/
theorem thousand_dvd_rate_mul (k f : Nat) : 1000 ∣ k * (1000 / Nat.gcd f 1000) * f := by
  have hstep : 1000 / Nat.gcd f 1000 * f = 1000 * (f / Nat.gcd f 1000) := by
    rw [← Nat.mul_div_right_comm (Nat.gcd_dvd_right f 1000), Nat.mul_div_assoc _ (Nat.gcd_dvd_left f 1000)]
  rw [Nat.mul_assoc, hstep]
  exact Dvd.dvd.mul_left (Nat.dvd_mul_right _ _) k

/-- Settles O3: the supplied rate is of the form R148 accepts. -/
theorem resetIsASuccessfulConstruction : Obligations.ResetIsASuccessfulConstruction :=
  construct_of_accepted rfl rfl ((lengthIsWhole_iff _).mpr (thousand_dvd_rate_mul _ _))

/-! The invariants at reset (R37, R38). -/

theorem initial_lawful (c : Config) (e : Nat) : (State.initial c e).Lawful where
  seqCountsFrames := rfl
  sentLeEncoded := Nat.le_refl 0
  sendsAreCounted := rfl
  bytesAreAccepted := rfl
  indicatorShowsState := fun _ => by simp [State.initial]
  neverOpened := fun h => ⟨h, rfl, rfl⟩
  countersFit := by simp [State.initial]
  haltedIsQuiet := fun h => nomatch h

theorem initial_pipelineLawful (c : Config) (e : Nat) : (State.initial c e).PipelineLawful where
  framesAreAccounted := rfl
  sentLePackets := Nat.le_refl 0
  unsentLeErrors := Nat.le_refl 0
  sequencesAreConsecutive := fun _ _ h => nomatch h
  everyFrameIsAsked := fun _ => rfl

/-- Settles O45. -/
theorem resetIsLawful : Obligations.ResetIsLawful := ⟨initial_lawful _ _, initial_lawful⟩

/-- Settles O47. -/
theorem resetIsPipelineLawful : Obligations.ResetIsPipelineLawful :=
  ⟨initial_pipelineLawful _ _, initial_pipelineLawful⟩

/-! The oracles' own answers (R166, R182). -/

theorem codecAnswer_free {s : State} (h : s.codecScript = none) (b : List Byte) :
    codecAnswer s b = .fail ∨ ∃ p, codecAnswer s b = .ok p ∧ p.length ≤ maxPayload := by
  simp only [codecAnswer, h]
  split
  case h_1 p _ => exact .inr ⟨p.val, rfl, p.property⟩
  case h_2 => exact .inl rfl

theorem transportAnswer_free {s : State} (h : s.transportScript = none) (f : List Byte) :
    transportAnswer s f = .fail ∨ ∃ n, transportAnswer s f = .ok n ∧ n ≤ f.length := by
  simp only [transportAnswer, h]
  split
  case h_1 n _ => exact .inr ⟨n.val, rfl, Nat.le_of_lt_succ n.isLt⟩
  case h_2 => exact .inl rfl

/-- Settles O59: the range is in the type of each oracle's answer. -/
theorem freeAnswersAreInRange : Obligations.FreeAnswersAreInRange :=
  fun b f _ => ⟨fun h => codecAnswer_free h b, fun h => transportAnswer_free h f⟩

end Sys2Proof.Machine
end

section
/-! Single operations completed: the reads and refusals with no case left over, the whole transition of a release,
the buffers that are dropped and the ones that are sent, and the exact success rate. -/

namespace Sys2Proof.Machine

open Host

/-! Refusals and reads (R115, R116). -/

theorem createDirect_of_oversize (t : Byte) {p : List Byte} (hp : maxPayload < p.length) (s : State) :
    createDirect t p s = .refused .payloadTooLong := if_neg (Nat.not_le.mpr hp)

theorem createAndSend_of_oversize (t : Byte) {p : List Byte} (hp : maxPayload < p.length) (s : State) :
    createAndSend t p s = .error .payloadTooLong := if_neg (Nat.not_le.mpr hp)

theorem createAndSend_of_fits (t : Byte) {p : List Byte} (hp : p.length ≤ maxPayload) (s : State) :
    createAndSend t p s = sendFrame (createFrame t p s).1 s.bumpSeq := if_pos hp

theorem exec_pttPress_of_oversize {s : State} (hh : s.halted = false) (hi : s.pttState = .idle)
    (hm : maxPayload < s.config.startMarker.length) : exec .pttPress s = .refused .payloadTooLong := by
  simp only [exec, execPttPress, hh, hi, Bool.false_eq_true, if_false, createAndSend_of_oversize _ hm, settle]

/-- Settles O25. -/
theorem oversizePayloadIsRefused : Obligations.OversizePayloadIsRefused := by
  intro p s hp
  exact ⟨createDirect_of_oversize audioType hp s, createDirect_of_oversize controlType hp s,
    fun hh hi hm => exec_pttPress_of_oversize hh hi (hm ▸ hp)⟩

/-- Settles O26. -/
theorem seqReadCompletes : Obligations.SeqReadCompletes := by
  intro s
  constructor
  · rw [exec_seqRead, State.finishWith_eq]
    rfl
  · rfl

/-! Edges without a transition (R157, R161, R170). -/

theorem exec_pttPress_of_halted {s : State} (hh : s.halted = true) :
    exec .pttPress s = .next (s.finish .halted none) := by
  simp only [exec, execPttPress, hh, if_true]

theorem exec_pttPress_of_transmitting {s : State} (hh : s.halted = false) (ht : s.pttState = .transmitting) :
    exec .pttPress s = .next (s.finish .ignored none) := by
  simp only [exec, execPttPress, hh, ht, Bool.false_eq_true, if_false]

theorem exec_pttRelease_of_halted {s : State} (hh : s.halted = true) :
    exec .pttRelease s = .next (s.finish .halted none) := by
  simp only [exec, execPttRelease, hh, if_true]

theorem exec_pttRelease_of_idle {s : State} (hh : s.halted = false) (hi : s.pttState = .idle) :
    exec .pttRelease s = .next (s.finish .ignored none) := by
  simp only [exec, execPttRelease, hh, hi, Bool.false_eq_true, if_false]

/-- Settles O31. -/
theorem redundantEdgesAreIgnored : Obligations.RedundantEdgesAreIgnored :=
  fun _ hh => ⟨exec_pttPress_of_transmitting hh, exec_pttRelease_of_idle hh⟩

/-- Settles O37. -/
theorem haltedEventsDoNothing : Obligations.HaltedEventsDoNothing :=
  fun b _ hh => ⟨exec_pttPress_of_halted hh, exec_pttRelease_of_halted hh, exec_audioBuf_of_halted b hh⟩

/-! The release (R160). -/

/-- A release taken while transmitting is one settled send of the stop frame, after the transition and before the
report. -/
theorem exec_pttRelease_of_transmitting {s : State} (hh : s.halted = false) (ht : s.pttState = .transmitting) :
    exec .pttRelease s =
      settle (sendFrame (buildHeader s.config 0x03 (s.seq + 1) 8 ++ stopMarker) (s.takeEdge .idle .off).bumpSeq)
        (fun sent t => (t.emit (.report t.snapshot)).finish (sendStatus sent) none) := by
  have hfits : stopMarker.length ≤ maxPayload := by decide
  simp only [exec, execPttRelease, hh, ht, Bool.false_eq_true, if_false, createAndSend_of_fits _ hfits]
  rfl

/-- Settles O32, one case for each answer to the send: the report is emitted after the send has counted. -/
theorem releaseCompletes : Obligations.ReleaseCompletes := by
  intro s f hh ht hfit hf
  have hexec := exec_pttRelease_of_transmitting hh ht
  rw [← hf] at hexec
  have hfit' : (s.takeEdge .idle .off).bumpSeq.CountersFit := hfit
  refine ⟨fun n ho ha hn hp hb => ?sent, fun ho ha he => ?failed, fun ho he => ?closed, rfl⟩
  case sent =>
    rw [hexec.trans (settle_sendFrame_of_sent ho ha hn (hfit'.countSent hp hb)), List.append_cons s.trace,
      List.append_cons (s.trace ++ _)]
    rfl
  case failed =>
    rw [hexec.trans (settle_sendFrame_of_failed ho ha (hfit'.countFailed he)), List.append_cons s.trace,
      List.append_cons (s.trace ++ _)]
    rfl
  case closed =>
    rw [hexec.trans (settle_sendFrame_of_closed ho (hfit'.countFailed he)), List.append_cons s.trace]
    rfl

/-! Buffers taken while transmitting (R164, R168). -/

/-- The two grounds of rejection of R145. -/
theorem validBuffer_eq_false {b : List Byte} {n : Nat} (h : b.length ≠ n ∨ ∀ x ∈ b, x = 0x00) :
    validBuffer b n = false := by
  refine Bool.eq_false_iff.mpr (fun hv => ?_)
  obtain ⟨hlen, x, hx, hne⟩ := (validExactlyWhen b n).mp hv
  exact h.elim (absurd hlen) (fun hall => hne (hall x hx))

theorem State.CountersFit.countInvalid {s : State} (h : s.CountersFit) (hi : s.invalidFrames < counterMax) :
    s.countInvalid.CountersFit := by
  obtain ⟨hfe, hfs, -, hee, hps, hbs, her⟩ := h
  exact ⟨hfe, hfs, hi, hee, hps, hbs, her⟩

theorem State.CountersFit.countEncodingError {s : State} (h : s.CountersFit) (he : s.encodingErrors < counterMax) :
    s.countEncodingError.CountersFit := by
  obtain ⟨hfe, hfs, hif, -, hps, hbs, her⟩ := h
  exact ⟨hfe, hfs, hif, he, hps, hbs, her⟩

theorem State.CountersFit.countEncoded {s : State} (h : s.CountersFit) (he : s.framesEncoded < counterMax) :
    s.countEncoded.CountersFit := by
  obtain ⟨-, hfs, hif, hee, hps, hbs, her⟩ := h
  exact ⟨he, hfs, hif, hee, hps, hbs, her⟩

theorem State.CountersFit.countFrameSent {s : State} (h : s.CountersFit) (hs : s.framesSent < counterMax) :
    (s.countFrameSent true).CountersFit := by
  obtain ⟨hfe, -, hif, hee, hps, hbs, her⟩ := h
  exact ⟨hfe, hs, hif, hee, hps, hbs, her⟩

/-- Settles O34: a rejected buffer and one that the codec fails on. -/
theorem droppedBuffersAreCounted : Obligations.DroppedBuffersAreCounted := by
  intro b s hh ht hfit
  rw [exec_audioBuf_of_transmitting b hh ht]
  refine ⟨fun hbad hi => ?_, fun hv hc he => ?_⟩
  · rw [processBuffer_of_invalid (validBuffer_eq_false hbad)]
    exact commit_of_fit (hfit.countInvalid hi)
  · rw [processBuffer_of_codec_fail hv hc]
    exact commit_of_fit (hfit.countEncodingError he)

/-- A valid buffer that the codec encodes in range is one settled send of an Audio frame, after it was counted as
encoded. -/
theorem processBuffer_of_packet {b p : List Byte} {s : State} (hv : validBuffer b (expectedLen s.config) = true)
    (hc : codecAnswer s b = .ok p) (hp : p.length ≤ maxPayload) :
    processBuffer b s =
      settle (sendFrame (buildHeader s.config 0x01 (s.seq + 1) p.length ++ p) (s.noteCodec b).countEncoded.bumpSeq)
        (fun sent t => (t.countFrameSent sent).finishAudio (sendStatus sent)) := by
  simp only [processBuffer, hv, hc, if_true, transmitPacket, if_pos hp, createAndSend_of_fits _ hp]
  rfl

/-- Settles O35, one case for each answer to the send: the frame was counted as encoded before it, and is counted as
sent only if it was. -/
theorem encodedBuffersAreSent : Obligations.EncodedBuffersAreSent := by
  intro b pkt f s hh ht hv hc hl hfit he hf
  have hexec := (exec_audioBuf_of_transmitting b hh ht).trans (processBuffer_of_packet hv hc hl)
  rw [← hf] at hexec
  have hfit' : (s.noteCodec b).countEncoded.bumpSeq.CountersFit := hfit.countEncoded he
  refine ⟨fun n ho ha hn hs hp hb => ?sent, fun ho ha hr => ?failed, fun ho hr => ?closed⟩
  case sent =>
    rw [hexec.trans (settle_sendFrame_of_sent ho ha hn ((hfit'.countSent hp hb).countFrameSent hs)),
      List.append_cons s.trace]
    rfl
  case failed =>
    rw [hexec.trans (settle_sendFrame_of_failed ho ha (hfit'.countFailed hr)), List.append_cons s.trace]
    rfl
  case closed =>
    rw [hexec.trans (settle_sendFrame_of_closed ho (hfit'.countFailed hr))]
    rfl

/-! The success rate (R191). -/

/-- Settles O43: the rate is the quotient of R189, and a quotient by a positive count. -/
theorem successRateIsExact : Obligations.SuccessRateIsExact := by
  intro sent encoded
  refine ⟨fun h => if_neg (by omega), fun h => ⟨_, (successRate_eq_div sent encoded).trans (if_pos h), ?_⟩⟩
  have hpos : (0 : Rat) < encoded := Nat.cast_pos.mpr h
  have hexact : (sent : Rat) * 100 / encoded * encoded = 100 * sent := by
    rw [div_mul_cancel₀ _ hpos.ne', mul_comm]
  refine ⟨hexact, by positivity, fun hle => ?le, ?full, ?none⟩
  case le =>
    have hcast : (sent : Rat) ≤ encoded := Nat.cast_le.mpr hle
    rw [div_le_iff₀ hpos]
    linarith
  case full =>
    rw [div_eq_iff hpos.ne', mul_comm, mul_right_inj' (by norm_num), Nat.cast_inj]
  case none =>
    rw [div_eq_zero_iff, or_iff_left hpos.ne', mul_eq_zero, or_iff_left (by norm_num), Nat.cast_eq_zero]

end Sys2Proof.Machine
end

section
/-! The refusals of R205. Each operation in each state either has a payload that is too long, or sends a frame, or
counts one dropped buffer, or counts nothing; in each of the four it is said when the operation is refused. -/

namespace Sys2Proof.Machine

open Host

/-! A payload that is too long (R115, R166). -/

theorem payloadFits_of_no_frame {i : Instr} {s : State} (h : payloadToFrame i s = none) : PayloadFits i s := by
  intro p hp
  rw [h] at hp
  cases hp

theorem exists_oversize {i : Instr} {s : State} (h : ¬ PayloadFits i s) :
    ∃ p, payloadToFrame i s = some p ∧ maxPayload < p.length := by
  simpa only [PayloadFits, not_forall, Nat.not_le, exists_prop] using h

/-- An audio buffer makes a frame when it is taken while transmitting, valid, and encoded (R164). -/
theorem payloadToFrame_audioBuf_some {b p : List Byte} {s : State} (h : payloadToFrame (.audioBuf b) s = some p) :
    s.halted = false ∧ s.pttState = .transmitting ∧ validBuffer b (expectedLen s.config) = true ∧
      codecAnswer s b = .ok p := by
  simp only [payloadToFrame] at h
  split at h
  case isTrue htaken =>
    obtain ⟨hh, ht, hv⟩ := htaken
    split at h
    case h_1 hc =>
      cases h
      exact ⟨hh, ht, hv, hc⟩
    case h_2 => cases h
  case isFalse => cases h

theorem processBuffer_of_oversize {b p : List Byte} {s : State} (hv : validBuffer b (expectedLen s.config) = true)
    (hc : codecAnswer s b = .ok p) (hp : maxPayload < p.length) : processBuffer b s = .refused .codecPacketTooLong := by
  simp only [processBuffer, hv, hc, if_true, transmitPacket, if_neg (Nat.not_le.mpr hp)]

/-- An operation whose frame's payload is too long is refused, by the name of who made the payload. -/
theorem exec_of_oversize {i : Instr} {s : State} (h : ¬ PayloadFits i s) :
    ((∃ b, i = .audioBuf b) ∧ exec i s = .refused .codecPacketTooLong) ∨
    ((∀ b, i ≠ .audioBuf b) ∧ exec i s = .refused .payloadTooLong) := by
  obtain ⟨p, hp, hlong⟩ := exists_oversize h
  cases i with
  | encAudio =>
    cases hp
    exact .inr ⟨nofun, createDirect_of_oversize audioType hlong s⟩
  | encControl =>
    cases hp
    exact .inr ⟨nofun, createDirect_of_oversize controlType hlong s⟩
  | pttPress =>
    obtain ⟨⟨hh, hi⟩, hm⟩ := Option.ite_none_right_eq_some.mp hp
    cases hm
    exact .inr ⟨nofun, exec_pttPress_of_oversize hh hi hlong⟩
  | pttRelease =>
    obtain ⟨-, hm⟩ := Option.ite_none_right_eq_some.mp hp
    cases hm
    exact absurd hlong (by decide)
  | audioBuf b =>
    obtain ⟨hh, ht, hv, hc⟩ := payloadToFrame_audioBuf_some hp
    exact .inl ⟨⟨b, rfl⟩, (exec_audioBuf_of_transmitting b hh ht).trans (processBuffer_of_oversize hv hc hlong)⟩
  | _ => cases hp

/-! An operation that sends. -/

/-- The counters fit once `encoded` and `sent` frames, `packets` packets of `bytes` bytes and `errors` errors have been
counted (R33). -/
def State.FitsAfter (s : State) (encoded sent packets bytes errors : Nat) : Prop :=
  s.framesEncoded + encoded ≤ counterMax ∧ s.framesSent + sent ≤ counterMax ∧ s.invalidFrames ≤ counterMax ∧
  s.encodingErrors ≤ counterMax ∧ s.packetsSent + packets ≤ counterMax ∧ s.bytesSent + bytes ≤ counterMax ∧
  s.errors + errors ≤ counterMax

theorem State.countersFit_iff (s : State) : s.CountersFit ↔ s.FitsAfter 0 0 0 0 0 := Iff.rfl

theorem State.CountsLike.fitsAfter_iff {u s : State} {e k : Nat} (h : u.CountsLike s e k) (e' k' p b r : Nat) :
    u.FitsAfter e' k' p b r ↔ s.FitsAfter (e + e') (k + k') p b r := by
  simp only [State.FitsAfter, h.framesEncoded, h.framesSent, h.invalidFrames, h.encodingErrors, h.packetsSent,
    h.bytesSent, h.errors, Nat.add_assoc]

theorem State.countSent_fitsAfter (s : State) (n e k p b r : Nat) :
    (s.countSent n).FitsAfter e k p b r ↔ s.FitsAfter e k (1 + p) (n + b) r := by
  simp only [State.FitsAfter, State.countSent, Nat.add_assoc]

theorem State.countFailed_fitsAfter (s : State) (e k p b r : Nat) :
    s.countFailed.FitsAfter e k p b r ↔ s.FitsAfter e k p b (1 + r) := by
  simp only [State.FitsAfter, State.countFailed, Nat.add_assoc]

/-- The transport of `s` answers that it accepted `n` bytes of `f` (R181). -/
def State.Accepts (s : State) (f : List Byte) (n : Nat) : Prop :=
  s.transportOpen = true ∧ transportAnswer s f = .ok n

/-- The transport of `s` is closed, or fails on `f` (R181). -/
def State.Fails (s : State) (f : List Byte) : Prop := s.transportOpen = false ∨ transportAnswer s f = .fail

/-- The three ways in which an operation that sends `f` can go on: the answer is beyond the frame, the send counts a
packet, or it counts an error. An audio buffer counts its frame besides. -/
theorem exec_cases_of_frameToSend {i : Instr} {f : List Byte} {s : State} (h : frameToSend i s = some f)
    (hp : PayloadFits i s) :
    ∃ audio : Bool, (audio = true ↔ ∃ b, i = .audioBuf b) ∧
      ((∃ n, s.Accepts f n ∧ f.length < n ∧ exec i s = .refused .transportOverAccept) ∨
       (∃ n t, s.Accepts f n ∧ n ≤ f.length ∧ exec i s = commit t ∧
          (t.CountersFit ↔ s.FitsAfter audio.toNat audio.toNat 1 n 0)) ∨
       (∃ t, s.Fails f ∧ exec i s = commit t ∧ (t.CountersFit ↔ s.FitsAfter audio.toNat 0 0 0 1))) := by
  obtain ⟨audio, before, rest, haudio, hexec, hopen, hans, hbefore, hrest⟩ := exec_of_frameToSend h hp
  have fits (b : Bool) (u : State) : (rest b u).CountersFit ↔ u.FitsAfter 0 (audio && b).toNat 0 0 0 :=
    (State.countersFit_iff _).trans ((hrest b u).fitsAfter_iff 0 0 0 0 0)
  have failed {u : State} (hu : u.FitsAfter 0 0 0 0 0 ↔ before.FitsAfter 0 0 0 0 1) :
      (rest false u).CountersFit ↔ s.FitsAfter audio.toNat 0 0 0 1 := by
    rw [fits, Bool.and_false]
    exact hu.trans (hbefore.fitsAfter_iff 0 0 0 0 1)
  refine ⟨audio, haudio, ?_⟩
  rw [hexec]
  obtain ⟨ho, hs⟩ | ⟨-, ha, hs⟩ | ⟨ho, n, ha, hn, hs⟩ | ⟨ho, n, ha, hn, hs⟩ := sendFrame_answers f before
  · rw [hs]
    exact .inr (.inr ⟨_, .inl (hopen ▸ ho), rfl, failed (before.countFailed_fitsAfter 0 0 0 0 0)⟩)
  · rw [hs]
    exact .inr (.inr ⟨_, .inr (hans ▸ ha), rfl, failed (State.countFailed_fitsAfter _ 0 0 0 0 0)⟩)
  · rw [hs]
    refine .inr (.inl ⟨n, _, ⟨hopen ▸ ho, hans ▸ ha⟩, hn, rfl, ?_⟩)
    rw [fits, Bool.and_true, State.countSent_fitsAfter]
    exact (hbefore.fitsAfter_iff 0 audio.toNat 1 n 0).trans (by rw [Nat.add_zero, Nat.zero_add])
  · rw [hs]
    exact .inl ⟨n, ⟨hopen ▸ ho, hans ▸ ha⟩, hn, rfl⟩

theorem State.Accepts.unique {s : State} {f : List Byte} {n m : Nat} (hn : s.Accepts f n) (hm : s.Accepts f m) :
    n = m :=
  TransportAnswer.ok.inj (hn.2.symm.trans hm.2)

theorem State.Accepts.not_fails {s : State} {f : List Byte} {n : Nat} (h : s.Accepts f n) : ¬ s.Fails f := by
  obtain ⟨ho, ha⟩ := h
  simp only [State.Fails, ho, ha, reduceCtorEq, or_self, not_false_eq_true]

/-- An operation that sends is refused exactly for an answer beyond the frame (R182) and for a counter (R33), which
differ by whether the send counts a packet or an error. -/
theorem exec_refused_iff_of_frameToSend {i : Instr} {f : List Byte} {s : State} (h : frameToSend i s = some f)
    (hp : PayloadFits i s) :
    ∃ audio : Bool, (audio = true ↔ ∃ b, i = .audioBuf b) ∧ ∀ r,
      (exec i s = .refused r ↔
        (r = .transportOverAccept ∧ ∃ n, s.Accepts f n ∧ f.length < n) ∨
        (r = .counterOverflow ∧
          ((∃ n, s.Accepts f n ∧ n ≤ f.length ∧ ¬ s.FitsAfter audio.toNat audio.toNat 1 n 0) ∨
            (s.Fails f ∧ ¬ s.FitsAfter audio.toNat 0 0 0 1)))) := by
  obtain ⟨audio, haudio, hcases⟩ := exec_cases_of_frameToSend h hp
  refine ⟨audio, haudio, fun r => ?_⟩
  obtain ⟨n, hacc, hn, hexec⟩ | ⟨n, t, hacc, hn, hexec, hfit⟩ | ⟨t, hfail, hexec, hfit⟩ := hcases
  case inl =>
    rw [hexec, Outcome.refused.injEq]
    refine ⟨fun hr => .inl ⟨hr.symm, n, hacc, hn⟩, ?_⟩
    rintro (⟨hr, -⟩ | ⟨-, ⟨m, hm, hle, -⟩ | ⟨hfail, -⟩⟩)
    · exact hr.symm
    · exact absurd hle (Nat.not_le.mpr (hacc.unique hm ▸ hn))
    · exact absurd hfail hacc.not_fails
  case inr.inl =>
    rw [hexec, commit_refused_iff, hfit]
    refine ⟨fun ⟨hr, hover⟩ => .inr ⟨hr, .inl ⟨n, hacc, hn, hover⟩⟩, ?_⟩
    rintro (⟨-, m, hm, hlt⟩ | ⟨hr, ⟨m, hm, -, hover⟩ | ⟨hfail, -⟩⟩)
    · exact absurd hn (Nat.not_le.mpr (hacc.unique hm ▸ hlt))
    · exact ⟨hr, hacc.unique hm ▸ hover⟩
    · exact absurd hfail hacc.not_fails
  case inr.inr =>
    rw [hexec, commit_refused_iff, hfit]
    refine ⟨fun ⟨hr, hover⟩ => .inr ⟨hr, .inr ⟨hfail, hover⟩⟩, ?_⟩
    rintro (⟨-, m, hm, -⟩ | ⟨hr, ⟨m, hm, -⟩ | ⟨-, hover⟩⟩)
    · exact absurd hfail hm.not_fails
    · exact absurd hfail hm.not_fails
    · exact ⟨hr, hover⟩

/-- Settles O40: the over-accepting answer, and each network counter at its limit. -/
theorem outOfRangeSendsAreRefused : Obligations.OutOfRangeSendsAreRefused := by
  intro i f s h hp
  obtain ⟨audio, -, hiff⟩ := exec_refused_iff_of_frameToSend h hp
  have failed (hfail : s.Fails f) (he : s.errors = counterMax) : exec i s = .refused .counterOverflow :=
    (hiff _).mpr (.inr ⟨rfl, .inr ⟨hfail, fun ⟨_, _, _, _, _, _, hlt⟩ => by omega⟩⟩)
  refine ⟨fun n ho ha hn => ?_, fun n ho ha hn hlim => ?_, fun _ ha => failed (.inr ha), fun ho => failed (.inl ho)⟩
  · exact (hiff _).mpr (.inl ⟨rfl, n, ⟨ho, ha⟩, hn⟩)
  · exact (hiff _).mpr (.inr ⟨rfl, .inl ⟨n, ⟨ho, ha⟩, hn, fun ⟨_, _, _, _, hps, hbs, _⟩ => by omega⟩⟩)

/-! An operation that sends nothing. -/

/-- A buffer that is dropped makes and sends no frame (R168). -/
theorem no_frame_of_dropped {i : Instr} {b : List Byte} {s : State} (ht : bufferTaken i s b)
    (hd : validBuffer b (expectedLen s.config) = false ∨ codecAnswer s b = .fail) :
    payloadToFrame i s = none ∧ frameToSend i s = none := by
  obtain ⟨rfl, -, -⟩ := ht
  obtain hv | hc := hd
  · simp only [payloadToFrame, frameToSend, hv, Bool.false_eq_true, and_false, if_false, and_self]
  · simp only [payloadToFrame, frameToSend, hc, ite_self, and_self]

/-- An operation that sends nothing, and has no payload that is too long, counts a rejected buffer, counts one that the
codec fails on, or counts nothing and goes on. -/
theorem exec_cases_of_unsent {i : Instr} {s : State} (h : frameToSend i s = none) (hp : PayloadFits i s) :
    (∃ b, bufferTaken i s b ∧ validBuffer b (expectedLen s.config) = false ∧
      exec i s = commit (s.countInvalid.finishAudio .validationError)) ∨
    (∃ b, bufferTaken i s b ∧ validBuffer b (expectedLen s.config) = true ∧ codecAnswer s b = .fail ∧
      exec i s = commit ((s.noteCodec b).countEncodingError.finishAudio .encodeError)) ∨
    ((∀ b, ¬ bufferTaken i s b) ∧ ∃ t, exec i s = .next t) := by
  cases i with
  | encAudio p => exact .inr (.inr ⟨nofun, _, createDirect_of_fits audioType (hp p rfl) s⟩)
  | encControl p => exact .inr (.inr ⟨nofun, _, createDirect_of_fits controlType (hp p rfl) s⟩)
  | send => cases h
  | pttPress =>
    cases hh : s.halted with
    | true => exact .inr (.inr ⟨nofun, _, exec_pttPress_of_halted hh⟩)
    | false =>
      cases hs : s.pttState with
      | transmitting => exact .inr (.inr ⟨nofun, _, exec_pttPress_of_transmitting hh hs⟩)
      | idle => simp only [frameToSend, hh, hs, and_self, if_true, reduceCtorEq] at h
  | pttRelease =>
    cases hh : s.halted with
    | true => exact .inr (.inr ⟨nofun, _, exec_pttRelease_of_halted hh⟩)
    | false =>
      cases hs : s.pttState with
      | idle => exact .inr (.inr ⟨nofun, _, exec_pttRelease_of_idle hh hs⟩)
      | transmitting => simp only [frameToSend, hh, hs, and_self, if_true, reduceCtorEq] at h
  | audioBuf b =>
    cases hh : s.halted with
    | true =>
      refine .inr (.inr ⟨fun b' ⟨_, hrun, _⟩ => ?_, _, exec_audioBuf_of_halted b hh⟩)
      rw [hh] at hrun
      cases hrun
    | false =>
      cases hs : s.pttState with
      | idle =>
        refine .inr (.inr ⟨fun b' ⟨_, _, hon⟩ => ?_, _, exec_audioBuf_of_idle b hh hs⟩)
        rw [hs] at hon
        cases hon
      | transmitting =>
        have hexec := exec_audioBuf_of_transmitting b hh hs
        cases hv : validBuffer b (expectedLen s.config) with
        | false => exact .inl ⟨b, ⟨rfl, hh, hs⟩, hv, hexec.trans (processBuffer_of_invalid hv)⟩
        | true =>
          cases hc : codecAnswer s b with
          | fail => exact .inr (.inl ⟨b, ⟨rfl, hh, hs⟩, hv, hc, hexec.trans (processBuffer_of_codec_fail hv hc)⟩)
          | ok p =>
            rw [frameToSend_audioBuf hh hs hv hc] at h
            cases h
  | shutdown =>
    cases hh : s.halted with
    | true => exact .inr (.inr ⟨nofun, _, exec_shutdown_of_halted hh⟩)
    | false => exact .inr (.inr ⟨nofun, _, exec_shutdown_of_running hh⟩)
  | _ => exact .inr (.inr ⟨nofun, _, rfl⟩)

/-- Settles O48: an admitted operation sends with room for what it counts, or sends nothing. -/
theorem admittedOperationsComplete : Obligations.AdmittedOperationsComplete := by
  intro i s ha
  obtain ⟨hroom, hp, -⟩ := id ha
  cases hf : frameToSend i s with
  | some f => exact exec_next_of_frameToSend hf ha
  | none =>
    obtain ⟨b, -, -, hexec⟩ | ⟨b, -, -, -, hexec⟩ | ⟨-, t, hexec⟩ := exec_cases_of_unsent hf hp
    · exact ⟨_, hexec.trans (commit_of_fit hroom.countInvalid_fit)⟩
    · exact ⟨_, hexec.trans (commit_of_fit hroom.countEncodingError_fit)⟩
    · exact ⟨t, hexec⟩

/-! The cases of R205. Where the counters fit, an increment overflows exactly from the limit. -/

theorem State.CountersFit.countInvalid_overflows_iff {s : State} (h : s.CountersFit) :
    ¬ s.countInvalid.CountersFit ↔ s.invalidFrames = counterMax := by
  obtain ⟨hfe, hfs, hif, hee, hps, hbs, her⟩ := h
  simp only [State.CountersFit, State.countInvalid]
  omega

theorem State.CountersFit.countEncodingError_overflows_iff {s : State} (h : s.CountersFit) :
    ¬ s.countEncodingError.CountersFit ↔ s.encodingErrors = counterMax := by
  obtain ⟨hfe, hfs, hif, hee, hps, hbs, her⟩ := h
  simp only [State.CountersFit, State.countEncodingError]
  omega

theorem State.CountersFit.sent_overflows_iff {s : State} (h : s.CountersFit) (audio : Bool) (n : Nat) :
    ¬ s.FitsAfter audio.toNat audio.toNat 1 n 0 ↔
      s.packetsSent = counterMax ∨ counterMax < s.bytesSent + n ∨
        (audio = true ∧ (s.framesEncoded = counterMax ∨ s.framesSent = counterMax)) := by
  obtain ⟨hfe, hfs, hif, hee, hps, hbs, her⟩ := h
  cases audio with
  | true =>
    simp only [State.FitsAfter, Bool.toNat_true, true_and]
    omega
  | false =>
    simp only [State.FitsAfter, Bool.toNat_false, Bool.false_eq_true, false_and, or_false]
    omega

theorem State.CountersFit.failed_overflows_iff {s : State} (h : s.CountersFit) (audio : Bool) :
    ¬ s.FitsAfter audio.toNat 0 0 0 1 ↔
      s.errors = counterMax ∨ (audio = true ∧ s.framesEncoded = counterMax) := by
  obtain ⟨hfe, hfs, hif, hee, hps, hbs, her⟩ := h
  cases audio with
  | true =>
    simp only [State.FitsAfter, Bool.toNat_true, true_and]
    omega
  | false =>
    simp only [State.FitsAfter, Bool.toNat_false, Bool.false_eq_true, false_and, or_false]
    omega

/-- An operation that meets a counter at its limit has a payload that fits, if it has one. -/
theorem payloadFits_of_counterAtLimit {i : Instr} {s : State} (h : CounterAtLimit i s) : PayloadFits i s := by
  obtain ⟨f, n, -, hp, -⟩ | ⟨f, -, hp, -⟩ | ⟨b, ht, hv, -⟩ | ⟨b, ht, -, hc, -⟩ := h
  · exact hp
  · exact hp
  · exact payloadFits_of_no_frame (no_frame_of_dropped ht (.inl hv)).1
  · exact payloadFits_of_no_frame (no_frame_of_dropped ht (.inr hc)).1

/-- A payload that is too long is its only case of R205. -/
theorem refusalCase_of_oversize {i : Instr} {s : State} (h : ¬ PayloadFits i s) (r : Refusal) :
    RefusalCase i s r ↔
      (r = .payloadTooLong ∧ ∀ b, i ≠ .audioBuf b) ∨ (r = .codecPacketTooLong ∧ ∃ b, i = .audioBuf b) := by
  constructor
  · rintro (⟨hr, hi, -⟩ | ⟨hr, hi, -⟩ | ⟨-, f, n, -, hp, -⟩ | ⟨-, hlim⟩)
    · exact .inl ⟨hr, hi⟩
    · exact .inr ⟨hr, hi⟩
    · exact absurd hp h
    · exact absurd (payloadFits_of_counterAtLimit hlim) h
  · rintro (⟨hr, hi⟩ | ⟨hr, hi⟩)
    · exact .inl ⟨hr, hi, h⟩
    · exact .inr (.inl ⟨hr, hi, h⟩)

/-- A payload that fits leaves the answer beyond the frame and the counters. -/
theorem refusalCase_of_fits {i : Instr} {s : State} (h : PayloadFits i s) (r : Refusal) :
    RefusalCase i s r ↔
      (r = .transportOverAccept ∧ ∃ f n, frameToSend i s = some f ∧ s.Accepts f n ∧ f.length < n) ∨
      (r = .counterOverflow ∧ CounterAtLimit i s) := by
  simp only [RefusalCase, State.Accepts, h, not_true_eq_false, and_false, false_or, true_and, and_assoc]

/-- The counters that an operation that sends can find at their limit. -/
theorem counterAtLimit_of_sends {i : Instr} {f : List Byte} {s : State} (h : frameToSend i s = some f)
    (hp : PayloadFits i s) :
    CounterAtLimit i s ↔
      (∃ n, s.Accepts f n ∧ n ≤ f.length ∧ (s.packetsSent = counterMax ∨ counterMax < s.bytesSent + n ∨
        ((∃ b, i = .audioBuf b) ∧ (s.framesEncoded = counterMax ∨ s.framesSent = counterMax)))) ∨
      (s.Fails f ∧ (s.errors = counterMax ∨ ((∃ b, i = .audioBuf b) ∧ s.framesEncoded = counterMax))) := by
  constructor
  · rintro (⟨g, n, hg, -, ho, ha, hn, hlim⟩ | ⟨g, hg, -, hfail, hlim⟩ | ⟨b, ht, hv, -⟩ | ⟨b, ht, -, hc, -⟩)
    · cases h.symm.trans hg
      exact .inl ⟨n, ⟨ho, ha⟩, hn, hlim⟩
    · cases h.symm.trans hg
      exact .inr ⟨hfail, hlim⟩
    · cases h.symm.trans (no_frame_of_dropped ht (.inl hv)).2
    · cases h.symm.trans (no_frame_of_dropped ht (.inr hc)).2
  · rintro (⟨n, ⟨ho, ha⟩, hn, hlim⟩ | ⟨hfail, hlim⟩)
    · exact .inl ⟨f, n, h, hp, ho, ha, hn, hlim⟩
    · exact .inr (.inl ⟨f, h, hp, hfail, hlim⟩)

/-- The counters that an operation that sends nothing can find at their limit. -/
theorem counterAtLimit_of_unsent {i : Instr} {s : State} (h : frameToSend i s = none) :
    CounterAtLimit i s ↔
      (∃ b, bufferTaken i s b ∧ validBuffer b (expectedLen s.config) = false ∧ s.invalidFrames = counterMax) ∨
      (∃ b, bufferTaken i s b ∧ validBuffer b (expectedLen s.config) = true ∧ codecAnswer s b = .fail ∧
        s.encodingErrors = counterMax) := by
  simp only [CounterAtLimit, h, reduceCtorEq, false_and, exists_false, false_or]

theorem bufferTaken_unique {i : Instr} {s : State} {b b' : List Byte} (h : bufferTaken i s b)
    (h' : bufferTaken i s b') : b = b' := Instr.audioBuf.inj (h.1.symm.trans h'.1)

theorem refused_iff_of_oversize {i : Instr} {s : State} (h : ¬ PayloadFits i s) (r : Refusal) :
    exec i s = .refused r ↔ RefusalCase i s r := by
  rw [refusalCase_of_oversize h]
  obtain ⟨⟨b, rfl⟩, hexec⟩ | ⟨hi, hexec⟩ := exec_of_oversize h
  · rw [hexec, Outcome.refused.injEq]
    exact ⟨fun hr => .inr ⟨hr.symm, b, rfl⟩, fun hcase => hcase.elim (fun ⟨_, hi⟩ => absurd rfl (hi b)) (·.1.symm)⟩
  · rw [hexec, Outcome.refused.injEq]
    exact ⟨fun hr => .inl ⟨hr.symm, hi⟩, fun hcase => hcase.elim (·.1.symm) (fun ⟨_, b, hb⟩ => absurd hb (hi b))⟩

theorem refused_iff_of_sends {i : Instr} {f : List Byte} {s : State} (h : frameToSend i s = some f)
    (hp : PayloadFits i s) (hfit : s.CountersFit) (r : Refusal) : exec i s = .refused r ↔ RefusalCase i s r := by
  obtain ⟨audio, haudio, hiff⟩ := exec_refused_iff_of_frameToSend h hp
  have hover : (∃ g n, frameToSend i s = some g ∧ s.Accepts g n ∧ g.length < n) ↔
      ∃ n, s.Accepts f n ∧ f.length < n := by
    simp only [h, Option.some.injEq, exists_and_left, exists_eq_left']
  rw [hiff, refusalCase_of_fits hp, counterAtLimit_of_sends h hp, hover, ← haudio]
  simp only [hfit.sent_overflows_iff, hfit.failed_overflows_iff]

theorem refused_iff_of_unsent {i : Instr} {s : State} (h : frameToSend i s = none) (hp : PayloadFits i s)
    (hfit : s.CountersFit) (r : Refusal) : exec i s = .refused r ↔ RefusalCase i s r := by
  have hnone : ¬ ∃ f n, frameToSend i s = some f ∧ s.Accepts f n ∧ f.length < n := by
    simp only [h, reduceCtorEq, false_and, exists_false, not_false_eq_true]
  rw [refusalCase_of_fits hp, counterAtLimit_of_unsent h, iff_false_intro hnone, and_false, false_or]
  obtain ⟨b, ht, hv, hexec⟩ | ⟨b, ht, hv, hc, hexec⟩ | ⟨hno, t, hexec⟩ := exec_cases_of_unsent h hp
  case inl =>
    rw [hexec, commit_refused_iff]
    refine and_congr_right fun _ => hfit.countInvalid_overflows_iff.trans ⟨fun hlim => .inl ⟨b, ht, hv, hlim⟩, ?_⟩
    rintro (⟨-, -, -, hlim⟩ | ⟨b', ht', hv', -⟩)
    · exact hlim
    · rw [← bufferTaken_unique ht ht', hv] at hv'
      cases hv'
  case inr.inl =>
    rw [hexec, commit_refused_iff]
    have hiff := State.CountersFit.countEncodingError_overflows_iff (s := s.noteCodec b) hfit
    refine and_congr_right fun _ => hiff.trans ⟨fun hlim => .inr ⟨b, ht, hv, hc, hlim⟩, ?_⟩
    rintro (⟨b', ht', hv', -⟩ | ⟨-, -, -, -, hlim⟩)
    · rw [← bufferTaken_unique ht ht', hv] at hv'
      cases hv'
    · exact hlim
  case inr.inr =>
    rw [hexec]
    simp only [hno, false_and, exists_false, or_self, and_false, reduceCtorEq]

/-- Settles O60: the payload is too long, or the operation sends, or it sends nothing. -/
theorem refusedExactlyInTheCasesOfR205 : Obligations.RefusedExactlyInTheCasesOfR205 := by
  intro i s r hfit
  by_cases hp : PayloadFits i s
  case neg => exact refused_iff_of_oversize hp r
  case pos =>
    cases hf : frameToSend i s with
    | some f => exact refused_iff_of_sends hf hp hfit r
    | none => exact refused_iff_of_unsent hf hp hfit r

end Sys2Proof.Machine
end

section
/-! What an operation that has a next state has done, said once for all instructions: the cases of `Performed`. What no
operation writes, and who writes what, are read off those cases. -/

namespace Sys2Proof.Machine

open Host

/-! A send that returned, by what it leaves and what it counts. -/

/-- `u` is what sending `f` made of `s`; it returned `b` (R181). -/
structure State.SentAs (s : State) (f : List Byte) (b : Bool) (u : State) : Prop where
  seq : u.seq = s.seq
  pttState : u.pttState = s.pttState
  indicator : u.indicator = s.indicator
  halted : u.halted = s.halted
  transportOpen : u.transportOpen = s.transportOpen
  config : u.config = s.config
  framesEncoded : u.framesEncoded = s.framesEncoded
  framesSent : u.framesSent = s.framesSent
  invalidFrames : u.invalidFrames = s.invalidFrames
  encodingErrors : u.encodingErrors = s.encodingErrors
  created : u.created = s.created
  edges : u.edges = s.edges
  hostDirect : u.hostDirect = s.hostDirect
  sends : u.sends = s.sends + 1
  packetsSent : u.packetsSent = s.packetsSent + b.toNat
  errors : u.errors = s.errors + (!b).toNat
  bytesSent : s.bytesSent ≤ u.bytesSent
  acceptedBytes : u.bytesSent + acceptedBytes s.trace = s.bytesSent + acceptedBytes u.trace
  closed : s.transportOpen = false → b = false ∧ u.bytesSent = s.bytesSent
  asked : askedFrames u.trace = askedFrames s.trace ++ if s.transportOpen then [f] else []

theorem sendFrame_sentAs {f : List Byte} {s u : State} {b : Bool} (h : sendFrame f s = .ok (b, u)) :
    s.SentAs f b u := by
  obtain ⟨hseq, hptt, hind, hhalt, hopen, hconf, hfe, hfs, hif, hee, hcr, hed, hhd, hsends, hasked, hnot⟩ :=
    sendFrame_frame h
  obtain ⟨-, -, hacc⟩ := sendFrame_counts h
  refine ⟨hseq, hptt, hind, hhalt, hopen, hconf, hfe, hfs, hif, hee, hcr, hed, hhd, hsends, ?_, ?_, ?_, hacc, ?_,
    ?asked⟩
  case asked =>
    cases ho : s.transportOpen with
    | true => exact hasked ho
    | false => exact (hnot ho).trans (List.append_nil _).symm
  all_goals obtain ⟨ho, rfl, rfl⟩ | ⟨ho, rfl, n, -, -, rfl⟩ | ⟨ho, rfl, -, rfl⟩ := sendFrame_ok h <;> simp [ho]

/-! What was performed. -/

/-- `Performed s i t`: instruction `i`, performed in state `s`, ended in `t`, by the path that the case names. -/
inductive Performed (s : State) : Instr → State → Prop where
  /-- It ended and wrote nothing; an edge so ends as ignored or halted. -/
  | ended {i : Instr} (k : Status) (r : Option Result)
      (hedge : i = .pttPress ∨ i = .pttRelease → k = .ignored ∨ k = .halted) : Performed s i (s.finish k r)
  /-- It returned a result and wrote nothing. -/
  | returned {i : Instr} (k : Status) (r : Result) (hpress : i ≠ .pttPress) (hrelease : i ≠ .pttRelease) :
      Performed s i (s.finishWith k r)
  /-- A buffer was answered and nothing else done. -/
  | continued (b : List Byte) (k : Status) : Performed s (.audioBuf b) (s.finishAudio k)
  /-- A frame was created and returned (R113, R114). -/
  | created {i : Instr} {p : List Byte} (f : List Byte) (hi : i = .encAudio p ∨ i = .encControl p) :
      Performed s i (s.bumpSeq.markDirect.finishWith .ok (.frame f))
  /-- The transport was closed (R187). -/
  | closed : Performed s .close (s.closeTransport.finish .ok none)
  /-- The block was shut down (R171). -/
  | shutDown (hh : s.halted = false) : Performed s .shutdown (s.shutDown.finish .ok none)
  /-- A buffer was rejected (R168). -/
  | rejected (b : List Byte) (hfit : (s.countInvalid.finishAudio .validationError).CountersFit) :
      Performed s (.audioBuf b) (s.countInvalid.finishAudio .validationError)
  /-- The codec failed on a buffer (R168). -/
  | notEncoded (b : List Byte) (hfit : ((s.noteCodec b).countEncodingError.finishAudio .encodeError).CountersFit) :
      Performed s (.audioBuf b) ((s.noteCodec b).countEncodingError.finishAudio .encodeError)
  /-- A frame of HOST's was sent (R181). -/
  | sent {f : List Byte} {b : Bool} {u : State} (hs : s.markDirect.SentAs f b u)
      (hfit : (u.finish (sendStatus b) (some (.sent b))).CountersFit) :
      Performed s (.send f) (u.finish (sendStatus b) (some (.sent b)))
  /-- A press was taken (R156). -/
  | pressed {b : Bool} {u : State} (hh : s.halted = false) (hi : s.pttState = .idle)
      (hs : (s.takeEdge .transmitting .on).bumpSeq.SentAs (createFrame controlType s.config.startMarker s).1 b u)
      (hfit : (u.finish (sendStatus b) none).CountersFit) : Performed s .pttPress (u.finish (sendStatus b) none)
  /-- A release was taken (R160). -/
  | released {b : Bool} {u : State} (hh : s.halted = false) (ht : s.pttState = .transmitting)
      (hs : (s.takeEdge .idle .off).bumpSeq.SentAs (createFrame controlType stopMarker s).1 b u)
      (hfit : ((u.emit (.report u.snapshot)).finish (sendStatus b) none).CountersFit) :
      Performed s .pttRelease ((u.emit (.report u.snapshot)).finish (sendStatus b) none)
  /-- A buffer was encoded and its frame sent (R164). -/
  | transmitted {buffer p : List Byte} {b : Bool} {u : State} (ht : s.pttState = .transmitting)
      (hs : (s.noteCodec buffer).countEncoded.bumpSeq.SentAs (createFrame audioType p s).1 b u)
      (hfit : ((u.countFrameSent b).finishAudio (sendStatus b)).CountersFit) :
      Performed s (.audioBuf buffer) ((u.countFrameSent b).finishAudio (sendStatus b))

theorem createAndSend_sentAs {t : Byte} {p : List Byte} {s u : State} {b : Bool}
    (h : createAndSend t p s = .ok (b, u)) : s.bumpSeq.SentAs (createFrame t p s).1 b u :=
  sendFrame_sentAs (createAndSend_ok h).2

theorem performed_of_parseData {i : Instr} {d : List Byte} {s t : State} (hpress : i ≠ .pttPress)
    (hrelease : i ≠ .pttRelease) (h : parseData d s = .next t) : Performed s i t := by
  rw [parseData_next h]
  exact .ended _ _ (fun hi => absurd hi (not_or.mpr ⟨hpress, hrelease⟩))

/-- A buffer taken while transmitting was rejected, not encoded, or transmitted. -/
theorem performed_of_processBuffer {b : List Byte} {s t : State} (ht : s.pttState = .transmitting)
    (h : processBuffer b s = .next t) : Performed s (.audioBuf b) t := by
  obtain ⟨-, rfl, hfit⟩ | ⟨-, -, rfl, hfit⟩ | ⟨-, p, -, hp⟩ := processBuffer_next h
  · exact .rejected b hfit
  · exact .notEncoded b hfit
  · obtain ⟨-, sent, u, hx, rfl, hfit⟩ := transmitPacket_next hp
    exact .transmitted ht (createAndSend_sentAs hx) hfit

/-- Every next state is reached by one of the cases of `Performed`. -/
theorem exec_performed {i : Instr} {s t : State} (h : exec i s = .next t) : Performed s i t := by
  cases i with
  | encAudio p =>
    obtain ⟨-, rfl⟩ := createDirect_next h
    exact .created _ (.inl rfl)
  | encControl p =>
    obtain ⟨-, rfl⟩ := createDirect_next h
    exact .created _ (.inr rfl)
  | seqRead | validate | sndStats | report =>
    cases h
    exact .returned _ _ nofun nofun
  | pttPress =>
    obtain ⟨-, rfl⟩ | ⟨-, -, rfl⟩ | ⟨hh, hi, b, u, hx, rfl, hfit⟩ := execPttPress_next h
    · exact .ended _ _ (fun _ => .inr rfl)
    · exact .ended _ _ (fun _ => .inl rfl)
    · exact .pressed hh hi (createAndSend_sentAs hx) hfit
  | pttRelease =>
    obtain ⟨-, rfl⟩ | ⟨-, -, rfl⟩ | ⟨hh, ht, b, u, hx, rfl, hfit⟩ := execPttRelease_next h
    · exact .ended _ _ (fun _ => .inr rfl)
    · exact .ended _ _ (fun _ => .inl rfl)
    · exact .released hh ht (createAndSend_sentAs hx) hfit
  | audioBuf b =>
    obtain ⟨-, rfl⟩ | ⟨-, -, rfl⟩ | ⟨-, ht, hb⟩ := execAudioBuf_next h
    · exact .continued b _
    · exact .continued b _
    · exact performed_of_processBuffer ht hb
  | shutdown =>
    obtain ⟨-, rfl⟩ | ⟨hh, rfl⟩ := execShutdown_next h
    · exact .ended _ _ nofun
    · exact .shutDown hh
  | send f =>
    obtain ⟨b, u, hx, rfl, hfit⟩ := execSend_next h
    exact .sent (sendFrame_sentAs hx) hfit
  | close =>
    cases h
    exact .closed
  | parse | frameAudioCurrent | frameTextCurrent | frameControlCurrent | frameDataCurrent | frameAudioLegacy
  | frameTextLegacy | frameControlLegacy | frameDataLegacy => exact performed_of_parseData nofun nofun h

/-! What no operation does: decrease a counter, write the configuration (R14, R32, R36, R192). -/

/-- No counter is smaller in `t` than in `s`. -/
def State.CountersLe (s t : State) : Prop :=
  s.framesEncoded ≤ t.framesEncoded ∧ s.framesSent ≤ t.framesSent ∧ s.invalidFrames ≤ t.invalidFrames ∧
  s.encodingErrors ≤ t.encodingErrors ∧ s.packetsSent ≤ t.packetsSent ∧ s.bytesSent ≤ t.bytesSent ∧ s.errors ≤ t.errors

theorem State.CountersLe.refl (s : State) : s.CountersLe s :=
  ⟨le_rfl, le_rfl, le_rfl, le_rfl, le_rfl, le_rfl, le_rfl⟩

theorem State.CountersLe.trans {s t u : State} (h : s.CountersLe t) (h' : t.CountersLe u) : s.CountersLe u := by
  obtain ⟨hfe, hfs, hif, hee, hps, hbs, her⟩ := h
  obtain ⟨hfe', hfs', hif', hee', hps', hbs', her'⟩ := h'
  exact ⟨hfe.trans hfe', hfs.trans hfs', hif.trans hif', hee.trans hee', hps.trans hps', hbs.trans hbs', her.trans her'⟩

theorem State.SentAs.countersLe {s u : State} {f : List Byte} {b : Bool} (h : s.SentAs f b u) : s.CountersLe u :=
  ⟨h.framesEncoded.ge, h.framesSent.ge, h.invalidFrames.ge, h.encodingErrors.ge, h.packetsSent ▸ Nat.le_add_right _ _,
    h.bytesSent, h.errors ▸ Nat.le_add_right _ _⟩

theorem State.countersLe_countInvalid (s : State) : s.CountersLe s.countInvalid :=
  ⟨le_rfl, le_rfl, Nat.le_succ _, le_rfl, le_rfl, le_rfl, le_rfl⟩

theorem State.countersLe_countEncodingError (s : State) : s.CountersLe s.countEncodingError :=
  ⟨le_rfl, le_rfl, le_rfl, Nat.le_succ _, le_rfl, le_rfl, le_rfl⟩

theorem State.countersLe_countEncoded (s : State) : s.CountersLe s.countEncoded :=
  ⟨Nat.le_succ _, le_rfl, le_rfl, le_rfl, le_rfl, le_rfl, le_rfl⟩

theorem State.countersLe_countFrameSent (s : State) (b : Bool) : s.CountersLe (s.countFrameSent b) :=
  ⟨le_rfl, Nat.le_add_right _ _, le_rfl, le_rfl, le_rfl, le_rfl, le_rfl⟩

theorem Performed.countersLe {i : Instr} {s t : State} (h : Performed s i t) : s.CountersLe t := by
  cases h with
  | ended | returned | continued | created | closed | shutDown => exact State.CountersLe.refl s
  | rejected => exact s.countersLe_countInvalid
  | notEncoded => exact s.countersLe_countEncodingError
  | sent hs => exact hs.countersLe
  | pressed _ _ hs => exact hs.countersLe
  | released _ _ hs => exact hs.countersLe
  | transmitted _ hs =>
    exact s.countersLe_countEncoded.trans (hs.countersLe.trans (State.countersLe_countFrameSent _ _))

/-- Settles O49. -/
theorem countersNeverDecrease : Obligations.CountersNeverDecrease := by
  intro s t h
  obtain ⟨-, rfl⟩ | ⟨l, rest, -, -, rfl⟩ | ⟨l, rest, i, -, -, hexec⟩ := step_next h
  · exact State.CountersLe.refl t
  · exact State.CountersLe.refl s
  · exact (exec_performed hexec).countersLe

theorem Performed.config {i : Instr} {s t : State} (h : Performed s i t) : t.config = s.config := by
  cases h with
  | ended | returned | continued | created | closed | shutDown | rejected | notEncoded => rfl
  | sent hs => exact hs.config
  | pressed _ _ hs => exact hs.config
  | released _ _ hs => exact hs.config
  | transmitted _ hs => exact hs.config

/-- Settles O50. -/
theorem configurationIsNeverWritten : Obligations.ConfigurationIsNeverWritten := by
  intro s t h
  obtain ⟨-, rfl⟩ | ⟨l, rest, -, -, rfl⟩ | ⟨l, rest, i, -, -, hexec⟩ := step_next h
  · rfl
  · rfl
  · exact (exec_performed hexec).config

/-! Who writes what (R23, R26, R28, R29, R35, R163). -/

/-- `PTT_STATE` and the indicator: kept, or written by an edge, or the indicator by a shutdown. -/
theorem Performed.lamp {i : Instr} {s t : State} (h : Performed s i t) :
    (t.pttState = s.pttState ∧ t.indicator = s.indicator) ∨
    (i = .pttPress ∧ s.halted = false ∧ s.pttState = .idle ∧ t.pttState = .transmitting ∧ t.indicator = .on) ∨
    (i = .pttRelease ∧ s.halted = false ∧ s.pttState = .transmitting ∧ t.pttState = .idle ∧ t.indicator = .off) ∨
    (i = .shutdown ∧ t.pttState = s.pttState ∧ t.indicator = .off) := by
  cases h with
  | ended | returned | continued | created | closed | rejected | notEncoded => exact .inl ⟨rfl, rfl⟩
  | shutDown => exact .inr (.inr (.inr ⟨rfl, rfl, rfl⟩))
  | sent hs => exact .inl ⟨hs.pttState, hs.indicator⟩
  | pressed hh hi hs => exact .inr (.inl ⟨rfl, hh, hi, hs.pttState, hs.indicator⟩)
  | released hh ht hs => exact .inr (.inr (.inl ⟨rfl, hh, ht, hs.pttState, hs.indicator⟩))
  | transmitted _ hs => exact .inl ⟨hs.pttState, hs.indicator⟩

/-- Settles O51. -/
theorem onlyEdgesMovePttState : Obligations.OnlyEdgesMovePttState := by
  intro i s t h hne
  obtain ⟨hptt, -⟩ | ⟨rfl, hh, hi, ht, -⟩ | ⟨rfl, hh, ht, hi, -⟩ | ⟨-, hptt, -⟩ := (exec_performed h).lamp
  · exact absurd hptt hne
  · exact ⟨hh, .inl ⟨rfl, hi, ht⟩⟩
  · exact ⟨hh, .inr ⟨rfl, ht, hi⟩⟩
  · exact absurd hptt hne

/-- Settles O52. -/
theorem onlyEdgesAndShutdownDriveIndicator : Obligations.OnlyEdgesAndShutdownDriveIndicator := by
  intro i s t h hne
  obtain ⟨-, hind⟩ | ⟨rfl, -, -, -, hon⟩ | ⟨rfl, -, -, -, hoff⟩ | ⟨rfl, -, hoff⟩ := (exec_performed h).lamp
  · exact absurd hind hne
  · exact .inl ⟨rfl, hon⟩
  · exact .inr (.inl ⟨rfl, hoff⟩)
  · exact .inr (.inr ⟨rfl, hoff⟩)

/-- `SEQ` and the count of frames: kept, or one frame was created, by a direct create, an edge, or a buffer taken while
transmitting. -/
theorem Performed.seq {i : Instr} {s t : State} (h : Performed s i t) :
    (t.seq = s.seq ∧ t.created = s.created) ∨
    (t.seq = s.seq + 1 ∧ t.created = s.created + 1 ∧
      ((∃ p, i = .encAudio p) ∨ (∃ p, i = .encControl p) ∨ i = .pttPress ∨
        (i = .pttRelease ∧ s.pttState = .transmitting) ∨ (∃ b, i = .audioBuf b) ∧ s.pttState = .transmitting)) := by
  cases h with
  | ended | returned | continued | closed | shutDown | rejected | notEncoded => exact .inl ⟨rfl, rfl⟩
  | created _ hi => exact .inr ⟨rfl, rfl, hi.elim (fun h => .inl ⟨_, h⟩) (fun h => .inr (.inl ⟨_, h⟩))⟩
  | sent hs => exact .inl ⟨hs.seq, hs.created⟩
  | pressed _ _ hs => exact .inr ⟨hs.seq, hs.created, .inr (.inr (.inl rfl))⟩
  | released _ ht hs => exact .inr ⟨hs.seq, hs.created, .inr (.inr (.inr (.inl ⟨rfl, ht⟩)))⟩
  | transmitted ht hs => exact .inr ⟨hs.seq, hs.created, .inr (.inr (.inr (.inr ⟨⟨_, rfl⟩, ht⟩)))⟩

/-- Settles O53. -/
theorem onlyFrameCreationMovesSeq : Obligations.OnlyFrameCreationMovesSeq := by
  intro i s t h
  exact (exec_performed h).seq.imp_right fun ⟨hseq, hcreated, hwho⟩ => ⟨hseq, hcreated,
    hwho.imp_right (Or.imp_right (Or.imp_right (Or.imp And.left And.left)))⟩

/-- `HALTED` and `TRANSPORT_OPEN`: kept, or written by a close or a shutdown. -/
theorem Performed.mode {i : Instr} {s t : State} (h : Performed s i t) :
    (t.halted = s.halted ∧ t.transportOpen = s.transportOpen) ∨
    (i = .close ∧ t.status = .ok ∧ t.halted = s.halted ∧ t.transportOpen = false) ∨
    (i = .shutdown ∧ t.status = .ok ∧ t.halted = true ∧ t.transportOpen = false) := by
  cases h with
  | ended | returned | continued | created | rejected | notEncoded => exact .inl ⟨rfl, rfl⟩
  | closed => exact .inr (.inl ⟨rfl, rfl, rfl, rfl⟩)
  | shutDown => exact .inr (.inr ⟨rfl, rfl, rfl, rfl⟩)
  | sent hs => exact .inl ⟨hs.halted, hs.transportOpen⟩
  | pressed _ _ hs => exact .inl ⟨hs.halted, hs.transportOpen⟩
  | released _ _ hs => exact .inl ⟨hs.halted, hs.transportOpen⟩
  | transmitted _ hs => exact .inl ⟨hs.halted, hs.transportOpen⟩

/-- Settles O54. -/
theorem nothingReopensOrResumes : Obligations.NothingReopensOrResumes := by
  intro i s t h
  obtain ⟨hh, ho⟩ | ⟨rfl, -, hh, ho⟩ | ⟨rfl, -, hh, ho⟩ := (exec_performed h).mode
  · exact ⟨hh.trans, fun hne => absurd hh hne, ho.trans, fun hne => absurd ho hne⟩
  · exact ⟨hh.trans, fun hne => absurd hh hne, fun _ => ho, fun _ => .inl rfl⟩
  · exact ⟨fun _ => hh, fun _ => rfl, fun _ => ho, fun _ => .inr rfl⟩

theorem execShutdown_status {s t : State} (h : execShutdown s = .next t) : t.status = .ok := by
  obtain ⟨-, rfl⟩ | ⟨-, rfl⟩ := execShutdown_next h
  · rfl
  · rfl

/-- The four statuses of a recoverable error (R200). -/
def Status.IsError (k : Status) : Prop :=
  k ∈ [Status.validationError, Status.encodeError, Status.transmitError, Status.parseError]

/-- An edge that ends in an error was taken (R156, R160). -/
theorem Performed.edge_of_error {i : Instr} {s t : State} (h : Performed s i t) (he : t.status.IsError)
    (hedge : i = .pttPress ∨ i = .pttRelease) : t.pttState ≠ s.pttState := by
  cases h with
  | ended k r hk => obtain rfl | rfl := hk hedge <;> simp [Status.IsError] at he
  | returned k r hpress hrelease => exact absurd hedge (not_or.mpr ⟨hpress, hrelease⟩)
  | created f hi => obtain rfl | rfl := hi <;> simp at hedge
  | pressed _ hi hs => simp [hs.pttState, hi]
  | released _ ht hs => simp [hs.pttState, ht]
  | continued | closed | shutDown | rejected | notEncoded | sent | transmitted => simp at hedge

/-- Settles O55: only a close and a shutdown write a mode, and they end with `OK`; an edge in error moved
`PTT_STATE`, so it was taken. -/
theorem errorsAreContained : Obligations.ErrorsAreContained := by
  intro i s t h he
  have hp := exec_performed h
  have hok : t.status ≠ .ok := by
    intro hk
    rw [hk] at he
    simp at he
  obtain ⟨hhalted, hopen⟩ : t.halted = s.halted ∧ t.transportOpen = s.transportOpen := by
    obtain hmode | ⟨-, hk, -⟩ | ⟨-, hk, -⟩ := hp.mode
    · exact hmode
    · exact absurd hk hok
    · exact absurd hk hok
  have moved := hp.edge_of_error he
  refine ⟨hhalted, hopen, ?_⟩
  obtain ⟨hptt, hind⟩ | ⟨rfl, -, hi, ht, hon⟩ | ⟨rfl, -, ht, hi, hoff⟩ | ⟨rfl, -⟩ := hp.lamp
  · exact ⟨fun _ _ => ⟨hptt, hind⟩, fun hi => absurd hptt (moved (.inl hi)), fun hi => absurd hptt (moved (.inr hi))⟩
  · exact ⟨fun hne => absurd rfl hne, fun _ => ⟨hi, ht, hon⟩, nofun⟩
  · exact ⟨fun _ hne => absurd rfl hne, nofun, fun _ => ⟨ht, hi, hoff⟩⟩
  · exact absurd (execShutdown_status h) hok

/-- Settles O58: in `Idle` a release and a buffer create no frame. -/
theorem idleCreatesNoAudioFrame : Obligations.IdleCreatesNoAudioFrame := by
  intro i s t h hidle hpress
  have hp := exec_performed h
  have notOn : s.pttState ≠ .transmitting := by simp [hidle]
  constructor
  · obtain ⟨hptt, -⟩ | ⟨hi, -⟩ | ⟨-, -, ht, -⟩ | ⟨-, hptt, -⟩ := hp.lamp
    · exact hptt.trans hidle
    · exact absurd hi hpress
    · exact absurd ht notOn
    · exact hptt.trans hidle
  · intro haudio hcontrol
    obtain ⟨hseq, hcreated⟩ | ⟨-, -, ⟨p, hi⟩ | ⟨p, hi⟩ | hi | ⟨-, ht⟩ | ⟨-, ht⟩⟩ := hp.seq
    · exact ⟨hcreated, hseq⟩
    · exact absurd hi (haudio p)
    · exact absurd hi (hcontrol p)
    · exact absurd hi hpress
    · exact absurd ht notOn
    · exact absurd ht notOn

end Sys2Proof.Machine
end

section
/-! The presenter of an operation has no influence (R215): every operation does the same to a state and to the state
with another presenter. -/

namespace Sys2Proof.Machine

open Host

/-- The state, presented by `a`. -/
def State.presentedBy (s : State) (a : Agent) : State := { s with presenter := a }

/-- The next state, presented by `a`. -/
def nextPresentedBy (a : Agent) : Outcome State Fault Refusal → Outcome State Fault Refusal
  | .next t => .next (t.presentedBy a)
  | .fault r => .fault r
  | .refused r => .refused r

/-- What a send returned, presented by `a`. -/
def sentPresentedBy (a : Agent) : Except Refusal (Bool × State) → Except Refusal (Bool × State)
  | .ok (b, u) => .ok (b, u.presentedBy a)
  | .error r => .error r

theorem commit_presentedBy (s : State) (a : Agent) : commit (s.presentedBy a) = nextPresentedBy a (commit s) := by
  by_cases h : s.CountersFit
  · rw [commit_of_fit h]
    exact commit_of_fit (s := s.presentedBy a) h
  · rw [commit_refused_iff.mpr ⟨rfl, h⟩]
    exact commit_refused_iff.mpr ⟨rfl, h⟩

theorem sendFrame_presentedBy (f : List Byte) (s : State) (a : Agent) :
    sendFrame f (s.presentedBy a) = sentPresentedBy a (sendFrame f s) := by
  have hopen : (s.presentedBy a).transportOpen = s.transportOpen := rfl
  have hans : transportAnswer (s.presentedBy a) f = transportAnswer s f := rfl
  unfold sendFrame
  rw [hopen, hans]
  cases s.transportOpen with
  | false => rfl
  | true =>
    cases transportAnswer s f with
    | fail => rfl
    | ok n =>
      by_cases hn : n ≤ f.length
      · simp only [if_true, if_pos hn]
        rfl
      · simp only [if_true, if_neg hn]
        rfl

theorem createAndSend_presentedBy (t : Byte) (p : List Byte) (s : State) (a : Agent) :
    createAndSend t p (s.presentedBy a) = sentPresentedBy a (createAndSend t p s) := by
  by_cases hp : p.length ≤ maxPayload
  · rw [createAndSend_of_fits t hp, createAndSend_of_fits t hp]
    exact sendFrame_presentedBy _ s.bumpSeq a
  · rw [createAndSend_of_oversize t (Nat.lt_of_not_le hp), createAndSend_of_oversize t (Nat.lt_of_not_le hp)]
    rfl

/-- A settled send goes on alike where the send and its rest do. -/
theorem settle_presentedBy {x y : Except Refusal (Bool × State)} {k : Bool → State → State} {a : Agent}
    (hx : y = sentPresentedBy a x) (hk : ∀ b u, k b (u.presentedBy a) = (k b u).presentedBy a) :
    settle y k = nextPresentedBy a (settle x k) := by
  subst hx
  cases x with
  | error r => rfl
  | ok y =>
    change commit (k y.1 (y.2.presentedBy a)) = _
    rw [hk, commit_presentedBy]
    rfl

theorem createDirect_presentedBy (t : Byte) (p : List Byte) (s : State) (a : Agent) :
    createDirect t p (s.presentedBy a) = nextPresentedBy a (createDirect t p s) := by
  by_cases hp : p.length ≤ maxPayload
  · rw [createDirect_of_fits t hp, createDirect_of_fits t hp]
    rfl
  · rw [createDirect_of_oversize t (Nat.lt_of_not_le hp), createDirect_of_oversize t (Nat.lt_of_not_le hp)]
    rfl

theorem execPttPress_presentedBy (s : State) (a : Agent) :
    execPttPress (s.presentedBy a) = nextPresentedBy a (execPttPress s) := by
  have hhalted : (s.presentedBy a).halted = s.halted := rfl
  have hptt : (s.presentedBy a).pttState = s.pttState := rfl
  unfold execPttPress
  rw [hhalted, hptt]
  cases s.halted with
  | true => rfl
  | false =>
    cases s.pttState with
    | transmitting => rfl
    | idle =>
      exact settle_presentedBy (createAndSend_presentedBy controlType _ (s.takeEdge .transmitting .on) a) fun _ _ => rfl

theorem execPttRelease_presentedBy (s : State) (a : Agent) :
    execPttRelease (s.presentedBy a) = nextPresentedBy a (execPttRelease s) := by
  have hhalted : (s.presentedBy a).halted = s.halted := rfl
  have hptt : (s.presentedBy a).pttState = s.pttState := rfl
  unfold execPttRelease
  rw [hhalted, hptt]
  cases s.halted with
  | true => rfl
  | false =>
    cases s.pttState with
    | idle => rfl
    | transmitting =>
      exact settle_presentedBy (createAndSend_presentedBy controlType _ (s.takeEdge .idle .off) a) fun _ _ => rfl

theorem transmitPacket_presentedBy (p : List Byte) (s : State) (a : Agent) :
    transmitPacket p (s.presentedBy a) = nextPresentedBy a (transmitPacket p s) := by
  unfold transmitPacket
  by_cases hp : p.length ≤ maxPayload
  · rw [if_pos hp, if_pos hp]
    exact settle_presentedBy (createAndSend_presentedBy audioType p s.countEncoded a) fun _ _ => rfl
  · rw [if_neg hp, if_neg hp]
    rfl

theorem processBuffer_presentedBy (b : List Byte) (s : State) (a : Agent) :
    processBuffer b (s.presentedBy a) = nextPresentedBy a (processBuffer b s) := by
  have hconfig : (s.presentedBy a).config = s.config := rfl
  have hcodec : codecAnswer (s.presentedBy a) b = codecAnswer s b := rfl
  unfold processBuffer
  rw [hconfig, hcodec]
  cases validBuffer b (expectedLen s.config) with
  | false => exact commit_presentedBy (s.countInvalid.finishAudio .validationError) a
  | true =>
    cases codecAnswer s b with
    | ok p => exact transmitPacket_presentedBy p (s.noteCodec b) a
    | fail => exact commit_presentedBy ((s.noteCodec b).countEncodingError.finishAudio .encodeError) a

theorem execAudioBuf_presentedBy (b : List Byte) (s : State) (a : Agent) :
    execAudioBuf b (s.presentedBy a) = nextPresentedBy a (execAudioBuf b s) := by
  have hhalted : (s.presentedBy a).halted = s.halted := rfl
  have hptt : (s.presentedBy a).pttState = s.pttState := rfl
  unfold execAudioBuf
  rw [hhalted, hptt]
  cases s.halted with
  | true => rfl
  | false =>
    cases s.pttState with
    | idle => rfl
    | transmitting => exact processBuffer_presentedBy b s a

theorem execShutdown_presentedBy (s : State) (a : Agent) :
    execShutdown (s.presentedBy a) = nextPresentedBy a (execShutdown s) := by
  have hhalted : (s.presentedBy a).halted = s.halted := rfl
  unfold execShutdown
  rw [hhalted]
  cases s.halted with
  | true => rfl
  | false => rfl

/-- Every operation does alike to the state presented by another agent. -/
theorem exec_presentedBy (i : Instr) (s : State) (a : Agent) :
    exec i (s.presentedBy a) = nextPresentedBy a (exec i s) := by
  cases i with
  | encAudio p => exact createDirect_presentedBy audioType p s a
  | encControl p => exact createDirect_presentedBy controlType p s a
  | pttPress => exact execPttPress_presentedBy s a
  | pttRelease => exact execPttRelease_presentedBy s a
  | audioBuf b => exact execAudioBuf_presentedBy b s a
  | shutdown => exact execShutdown_presentedBy s a
  | send f => exact settle_presentedBy (sendFrame_presentedBy f s.markDirect a) fun _ _ => rfl
  | _ => rfl

/-- Settles O57. -/
theorem presenterHasNoInfluence : Obligations.PresenterHasNoInfluence := by
  intro i s a
  refine ⟨fun t h => ?_, fun r h => ?_⟩
  · exact (exec_presentedBy i s a).trans (congrArg (nextPresentedBy a) h)
  · exact (exec_presentedBy i s a).trans (congrArg (nextPresentedBy a) h)

end Sys2Proof.Machine
end

section
/-! The invariants of R37, R33 and R172: one rule for each operation on the state, and from these that every step keeps
them. The counter bound is tested at the end of an operation alone, so it is kept apart from the rest. -/

namespace Sys2Proof.Machine

open Host

/-- `State.Lawful` without the counter bound: what holds inside an operation too. -/
structure State.Accounted (s : State) : Prop where
  seqCountsFrames : s.seq = BitVec.ofNat 16 s.created
  sentLeEncoded : s.framesSent ≤ s.framesEncoded
  sendsAreCounted : s.packetsSent + s.errors = s.sends
  bytesAreAccepted : s.bytesSent = acceptedBytes s.trace
  indicatorShowsState : s.halted = false → (s.indicator = .on ↔ s.pttState = .transmitting)
  neverOpened : s.config.transportInitOk = false → s.transportOpen = false ∧ s.packetsSent = 0 ∧ s.bytesSent = 0
  haltedIsQuiet : s.halted = true → s.transportOpen = false ∧ s.indicator = .off

theorem State.lawful_iff (s : State) : s.Lawful ↔ s.Accounted ∧ s.CountersFit :=
  ⟨fun h => ⟨{ h with }, h.countersFit⟩, fun ⟨h, hfit⟩ => { h with countersFit := hfit }⟩

/-! One rule for each operation on the state. -/

namespace State.Accounted

variable {s : State}

theorem finish (h : s.Accounted) (k : Status) (r : Option Result) : (s.finish k r).Accounted := { h with }

theorem emit (h : s.Accounted) {e : Event} (he : acceptedBytes [e] = 0) : (s.emit e).Accounted :=
  { h with bytesAreAccepted := by rw [State.emit_trace, acceptedBytes_append, he]; exact h.bytesAreAccepted }

theorem finishWith (h : s.Accounted) (k : Status) (r : Result) : (s.finishWith k r).Accounted :=
  (h.emit rfl).finish _ _

theorem finishAudio (h : s.Accounted) (k : Status) : (s.finishAudio k).Accounted := (h.emit rfl).finish _ _

theorem markDirect (h : s.Accounted) : s.markDirect.Accounted := { h with }

theorem noteCodec (h : s.Accounted) (b : List Byte) : (s.noteCodec b).Accounted := { h with }

theorem countInvalid (h : s.Accounted) : s.countInvalid.Accounted := { h with }

theorem countEncodingError (h : s.Accounted) : s.countEncodingError.Accounted := { h with }

theorem countEncoded (h : s.Accounted) : s.countEncoded.Accounted :=
  { h with sentLeEncoded := Nat.le_succ_of_le h.sentLeEncoded }

theorem countFrameSent (h : s.Accounted) (hlt : s.framesSent < s.framesEncoded) (b : Bool) :
    (s.countFrameSent b).Accounted :=
  { h with
    sentLeEncoded := by
      cases b with
      | true => exact hlt
      | false => exact h.sentLeEncoded }

theorem bumpSeq (h : s.Accounted) : s.bumpSeq.Accounted :=
  { h with
    seqCountsFrames := by
      rw [State.bumpSeq_seq, State.bumpSeq_created, BitVec.ofNat_add, h.seqCountsFrames]
      rfl }

theorem takeEdge (h : s.Accounted) (hh : s.halted = false) {p : PttState} {l : Level}
    (hl : l = .on ↔ p = .transmitting) : (s.takeEdge p l).Accounted :=
  { h with
    bytesAreAccepted := by
      rw [State.takeEdge_trace, acceptedBytes_append]
      exact h.bytesAreAccepted
    indicatorShowsState := fun _ => hl
    haltedIsQuiet := fun hh' => absurd (hh.symm.trans hh') Bool.false_ne_true }

theorem closeTransport (h : s.Accounted) : s.closeTransport.Accounted :=
  { h with
    neverOpened := fun hinit => ⟨rfl, (h.neverOpened hinit).2⟩
    haltedIsQuiet := fun hh => ⟨rfl, (h.haltedIsQuiet hh).2⟩ }

theorem shutDown (h : s.Accounted) : s.shutDown.Accounted :=
  { h with
    bytesAreAccepted := by
      rw [State.shutDown_trace, acceptedBytes_append]
      exact h.bytesAreAccepted
    indicatorShowsState := nofun
    neverOpened := fun hinit => ⟨rfl, (h.neverOpened hinit).2⟩
    haltedIsQuiet := fun _ => ⟨rfl, rfl⟩ }

theorem sentAs {u : State} {f : List Byte} {b : Bool} (h : s.Accounted) (hs : s.SentAs f b u) : u.Accounted where
  seqCountsFrames := by rw [hs.seq, hs.created, h.seqCountsFrames]
  sentLeEncoded := by rw [hs.framesSent, hs.framesEncoded]; exact h.sentLeEncoded
  sendsAreCounted := by
    have hcount := h.sendsAreCounted
    rw [hs.packetsSent, hs.errors, hs.sends]
    cases b <;> simp only [Bool.toNat_true, Bool.toNat_false, Bool.not_true, Bool.not_false] <;> omega
  bytesAreAccepted := by
    have hacc := hs.acceptedBytes
    have hbytes := h.bytesAreAccepted
    omega
  indicatorShowsState := by rw [hs.halted, hs.indicator, hs.pttState]; exact h.indicatorShowsState
  neverOpened := by
    rw [hs.config, hs.transportOpen, hs.packetsSent]
    intro hinit
    obtain ⟨hopen, hpackets, hbytes⟩ := h.neverOpened hinit
    obtain ⟨rfl, hsame⟩ := hs.closed hopen
    exact ⟨hopen, hpackets, hsame.trans hbytes⟩
  haltedIsQuiet := by rw [hs.halted, hs.transportOpen, hs.indicator]; exact h.haltedIsQuiet

end State.Accounted

/-! Every operation, every step. -/

/-- The counters fit after an operation: it wrote none, or it was tested at the end (R33). -/
theorem Performed.countersFit {i : Instr} {s t : State} (h : Performed s i t) (hfit : s.CountersFit) :
    t.CountersFit := by
  cases h with
  | ended | returned | continued | created | closed | shutDown => exact hfit
  | rejected | notEncoded | sent | pressed | released | transmitted => assumption

theorem Performed.accounted {i : Instr} {s t : State} (h : Performed s i t) (hs : s.Accounted) : t.Accounted := by
  cases h with
  | ended => exact hs.finish _ _
  | returned => exact hs.finishWith _ _
  | continued => exact hs.finishAudio _
  | created => exact hs.bumpSeq.markDirect.finishWith _ _
  | closed => exact hs.closeTransport.finish _ _
  | shutDown => exact hs.shutDown.finish _ _
  | rejected => exact hs.countInvalid.finishAudio _
  | notEncoded => exact (hs.noteCodec _).countEncodingError.finishAudio _
  | sent hu => exact (hs.markDirect.sentAs hu).finish _ _
  | pressed hh _ hu => exact ((hs.takeEdge hh (by decide)).bumpSeq.sentAs hu).finish _ _
  | released hh _ hu => exact (((hs.takeEdge hh (by decide)).bumpSeq.sentAs hu).emit rfl).finish _ _
  | transmitted _ hu =>
    have hlt := Nat.lt_succ_of_le hs.sentLeEncoded
    exact (((hs.noteCodec _).countEncoded.bumpSeq.sentAs hu).countFrameSent
      (by rw [hu.framesSent, hu.framesEncoded]; exact hlt) _).finishAudio _

theorem exec_keeps_lawful {i : Instr} {s t : State} (hs : s.Lawful) (h : exec i s = .next t) : t.Lawful := by
  obtain ⟨hacc, hfit⟩ := s.lawful_iff.mp hs
  have hp := exec_performed h
  exact t.lawful_iff.mpr ⟨hp.accounted hacc, hp.countersFit hfit⟩

theorem State.Lawful.take {s : State} (h : s.Lawful) (l : Line) (rest : List Line) :
    (s.take l rest).Lawful := { h with }

/-- Settles O44. -/
theorem everyStepKeepsLawful : Obligations.EveryStepKeepsLawful := by
  intro s t hs h
  obtain ⟨-, rfl⟩ | ⟨l, rest, -, -, rfl⟩ | ⟨l, rest, i, -, -, hexec⟩ := step_next h
  · exact hs
  · exact { hs.take l rest with }
  · exact exec_keeps_lawful (hs.take l rest) hexec

end Sys2Proof.Machine
end

section
/-! The pipeline's invariants (R38 g to i, R58 b): an operation that creates no frame keeps them, and so does one that
creates a frame, counts it, and hands it to the transport if that is open. -/

namespace Sys2Proof.Machine

open Host

/-! Operations on the state that create no frame. -/

namespace State.PipelineLawful

variable {s : State}

theorem finish (h : s.PipelineLawful) (k : Status) (r : Option Result) : (s.finish k r).PipelineLawful := { h with }

theorem take (h : s.PipelineLawful) (l : Line) (rest : List Line) : (s.take l rest).PipelineLawful := { h with }

theorem noteCodec (h : s.PipelineLawful) (b : List Byte) : (s.noteCodec b).PipelineLawful := { h with }

theorem countInvalid (h : s.PipelineLawful) : s.countInvalid.PipelineLawful := { h with }

theorem countEncodingError (h : s.PipelineLawful) : s.countEncodingError.PipelineLawful := { h with }

theorem closeTransport (h : s.PipelineLawful) : s.closeTransport.PipelineLawful := { h with everyFrameIsAsked := nofun }

theorem emit (h : s.PipelineLawful) {e : Event} (he : askedFrames [e] = []) : (s.emit e).PipelineLawful := by
  have hasked : askedFrames (s.emit e).trace = askedFrames s.trace := by
    rw [State.emit_trace, askedFrames_append, he, List.append_nil]
  exact { h with
    sequencesAreConsecutive := hasked ▸ h.sequencesAreConsecutive
    everyFrameIsAsked := hasked ▸ h.everyFrameIsAsked }

theorem finishWith (h : s.PipelineLawful) (k : Status) (r : Result) : (s.finishWith k r).PipelineLawful :=
  (h.emit rfl).finish _ _

theorem finishAudio (h : s.PipelineLawful) (k : Status) : (s.finishAudio k).PipelineLawful := (h.emit rfl).finish _ _

theorem shutDown (h : s.PipelineLawful) : s.shutDown.PipelineLawful := by
  have hasked : askedFrames s.shutDown.trace = askedFrames s.trace := by
    rw [State.shutDown_trace, askedFrames_append]
    exact List.append_nil _
  exact { h with
    sequencesAreConsecutive := hasked ▸ h.sequencesAreConsecutive
    everyFrameIsAsked := nofun }

end State.PipelineLawful

/-! Operations that create and send a frame. -/

/-- The sequence number of the next frame to be created: frame number `created + 1` (R37 a, R112). -/
theorem sequenceField_createFrame {s : State} (hs : s.Lawful) (t : Byte) (p : List Byte) :
    sequenceField s.config (createFrame t p s).1 = (s.created + 1) % 65536 := by
  have hseq : s.seq.toNat = s.created % 65536 := by
    rw [hs.seqCountsFrames, BitVec.toNat_ofNat]
  rw [createFrame_fst, sequenceField_buildHeader, ← State.bumpSeq_seq, bumpSeq_seq_toNat, hseq, Nat.mod_add_mod]

/-- Frames numbered consecutively stay so when the next one is appended. -/
theorem consecutive_append {c : Config} {fs : List (List Byte)} {f : List Byte}
    (h : ∀ k g, fs[k]? = some g → sequenceField c g = (k + 1) % 65536)
    (hf : sequenceField c f = (fs.length + 1) % 65536) :
    ∀ k g, (fs ++ [f])[k]? = some g → sequenceField c g = (k + 1) % 65536 := by
  intro k g hk
  obtain hlt | heq | hgt := Nat.lt_trichotomy k fs.length
  · exact h k g (by rwa [List.getElem?_append_left hlt] at hk)
  · rw [heq, List.getElem?_concat_length] at hk
    cases hk
    rw [heq, hf]
  · rw [List.getElem?_eq_none (by rw [List.length_append, List.length_singleton]; omega)] at hk
    cases hk

/-- The trace after one more frame was created, and handed to the transport if it is open (R58 b). -/
theorem State.PipelineLawful.asked_of_sent {s u : State} {f : List Byte} (hs : s.PipelineLawful)
    (hf : sequenceField s.config f = (s.created + 1) % 65536)
    (hasked : askedFrames u.trace = askedFrames s.trace ++ if s.transportOpen then [f] else []) :
    (∀ k g, (askedFrames u.trace)[k]? = some g → sequenceField s.config g = (k + 1) % 65536) ∧
    (s.transportOpen = true → (askedFrames u.trace).length = s.created + 1) := by
  cases ho : s.transportOpen with
  | false =>
    rw [hasked, ho, if_neg Bool.false_ne_true, List.append_nil]
    exact ⟨hs.sequencesAreConsecutive, nofun⟩
  | true =>
    have hlen := hs.everyFrameIsAsked ho
    rw [hasked, ho, if_pos rfl]
    exact ⟨consecutive_append hs.sequencesAreConsecutive (hlen.symm ▸ hf),
      fun _ => by rw [List.length_append, hlen, List.length_singleton]⟩

/-- An edge's frame: one edge, one frame, one send (R38 g). -/
theorem State.PipelineLawful.edge_sent {s u : State} {f : List Byte} {b : Bool} {p : PttState} {l : Level}
    (hs : s.PipelineLawful) (hf : sequenceField s.config f = (s.created + 1) % 65536)
    (hu : (s.takeEdge p l).bumpSeq.SentAs f b u) : u.PipelineLawful := by
  have hedge : askedFrames (s.takeEdge p l).bumpSeq.trace = askedFrames s.trace := by
    rw [State.bumpSeq_trace, State.takeEdge_trace, askedFrames_append]
    exact List.append_nil _
  obtain ⟨hconsecutive, hlength⟩ := hs.asked_of_sent hf (hedge ▸ hu.asked)
  exact {
    framesAreAccounted := by
      rw [hu.created, hu.framesEncoded, hu.edges]
      exact congrArg (· + 1) hs.framesAreAccounted
    sentLePackets := by
      rw [hu.framesSent, hu.packetsSent]
      exact Nat.le_add_right_of_le hs.sentLePackets
    unsentLeErrors := by
      rw [hu.framesEncoded, hu.framesSent, hu.errors, ← Nat.add_assoc]
      exact Nat.le_add_right_of_le hs.unsentLeErrors
    sequencesAreConsecutive := by
      rw [hu.config]
      exact hconsecutive
    everyFrameIsAsked := by
      rw [hu.transportOpen, hu.created]
      exact hlength }

/-- An audio frame: one frame encoded, and counted as sent with its packet or as unsent with its error (R38 h, i). -/
theorem State.PipelineLawful.audio_sent {s u : State} {f buffer : List Byte} {b : Bool} (hs : s.PipelineLawful)
    (hf : sequenceField s.config f = (s.created + 1) % 65536)
    (hu : (s.noteCodec buffer).countEncoded.bumpSeq.SentAs f b u) : (u.countFrameSent b).PipelineLawful := by
  obtain ⟨hconsecutive, hlength⟩ := hs.asked_of_sent hf hu.asked
  have hcreated : u.created = s.created + 1 := hu.created
  have hedges : u.edges = s.edges := hu.edges
  have hencoded : u.framesEncoded = s.framesEncoded + 1 := hu.framesEncoded
  have hsent : (u.countFrameSent b).framesSent = s.framesSent + b.toNat := by
    rw [State.countFrameSent_framesSent, hu.framesSent]
    cases b <;> rfl
  have hpackets : u.packetsSent = s.packetsSent + b.toNat := hu.packetsSent
  have herrors : u.errors = s.errors + (!b).toNat := hu.errors
  have hone : b.toNat + (!b).toNat = 1 := by cases b <;> rfl
  exact {
    framesAreAccounted := by
      have hold := hs.framesAreAccounted
      rw [State.countFrameSent_created, State.countFrameSent_framesEncoded, State.countFrameSent_edges]
      omega
    sentLePackets := by
      rw [hsent, State.countFrameSent_packetsSent, hpackets]
      exact Nat.add_le_add_right hs.sentLePackets _
    unsentLeErrors := by
      have hold := hs.unsentLeErrors
      rw [hsent, State.countFrameSent_framesEncoded, State.countFrameSent_errors]
      omega
    sequencesAreConsecutive := by
      rw [State.countFrameSent_config, hu.config]
      exact hconsecutive
    everyFrameIsAsked := by
      rw [State.countFrameSent_transportOpen, State.countFrameSent_created, hu.transportOpen, hu.created]
      exact hlength }

/-! Every operation, every step. -/

theorem Performed.pipelineLawful {i : Instr} {s t : State} (h : Performed s i t) (hl : s.Lawful)
    (hs : s.PipelineLawful) (hd : t.hostDirect = false) : t.PipelineLawful := by
  cases h with
  | ended => exact hs.finish _ _
  | returned => exact hs.finishWith _ _
  | continued => exact hs.finishAudio _
  | created => cases hd
  | closed => exact hs.closeTransport.finish _ _
  | shutDown => exact hs.shutDown.finish _ _
  | rejected => exact hs.countInvalid.finishAudio _
  | notEncoded => exact (hs.noteCodec _).countEncodingError.finishAudio _
  | sent hu => cases hu.hostDirect.symm.trans hd
  | pressed _ _ hu => exact (hs.edge_sent (sequenceField_createFrame hl _ _) hu).finish _ _
  | released _ _ hu => exact ((hs.edge_sent (sequenceField_createFrame hl _ _) hu).emit rfl).finish _ _
  | transmitted _ hu => exact (hs.audio_sent (sequenceField_createFrame hl _ _) hu).finishAudio _

/-- Settles O46. -/
theorem pipelineStepsKeepSequenceConsecutive : Obligations.PipelineStepsKeepSequenceConsecutive := by
  intro s t hl hs h hd
  obtain ⟨-, rfl⟩ | ⟨l, rest, -, -, rfl⟩ | ⟨l, rest, i, -, -, hexec⟩ := step_next h
  · exact hs
  · exact (hs.take l rest).finish _ _
  · exact (exec_performed hexec).pipelineLawful (hl.take l rest) (hs.take l rest) hd

end Sys2Proof.Machine
end
